-- ==== Sys2Proof/Word.lean ====
section
/-!
DEFINITION. The word types of the block: 32-bit operands and results (spec/00_scope.md R7, `W`), 16-bit
ROM words (`ROM_W`), and the two readings of a 32-bit pattern (R11).
-/

namespace Sys2Proof

/-- Every operand, result and 32-bit working register (00 R7, R13). -/
abbrev Word := BitVec 32

/-- One word of a constant table (00 R7 `ROM_W`, 20 R50). -/
abbrev RomWord := BitVec 16

/-- The signed reading `S(v)` of a 32-bit pattern (00 R11). -/
abbrev Word.signed (v : Word) : Int := v.toInt

/-- The unsigned reading `U(v)` of a 32-bit pattern (00 R11). -/
abbrev Word.unsigned (v : Word) : Nat := v.toNat

end Sys2Proof
end

