-- ==== Sys2Proof/Config.lean ====
section
/-!
DEFINITION. The implementation parameters (00 R7) and the free values: constants without a body, of which
no proof can know the value.
-/

namespace Sys2Proof.Config

/-- Fractional bits of the fixed-point format, Q15 (00 R7 `F`). -/
def fractionalBits : Nat := 15

/-- Fixed-point 1.0 and one full turn of angle (00 R7 `ONE`; 41 R114 `full_turn`). -/
def fullTurn : Word := 32768#32

/-- Half a turn (00 R7 `HALF_TURN`). -/
def halfTurn : Word := 16384#32

/-- A quarter turn (00 R7 `QUARTER_TURN`). -/
def quarterTurn : Word := 8192#32

/-- The registers to which a reset step gives no value (10 R38). -/
inductive WorkingReg where
  | op | a | b | x | y | ang | quad | num | root | cnt
  deriving DecidableEq, Repr

/-- FREE VALUE (log 4): what an unspecified register holds after the reset step numbered `draw` (10 R38,
70 R180; 93 U10 "any value"). -/
opaque unspecified (width : Nat) (reg : WorkingReg) (draw : Nat) : BitVec width

/-- One call of a scalar helper whose result the source leaves open when it does not fit 32 bits, with all its
operands (43 R145).  A conversion is from any real number (43 R150), so two calls need not be decidably equal. -/
inductive HelperCall where
  | abs (a : Word)
  | fromReal (r : ℝ)
  | mul (a b : Word) (c : Nat)
  | div (a b : Word) (c : Nat)

/-- FREE VALUE (log 14): the 32-bit word a helper gives when its mathematical result does not fit (43 R145; 93 U5
"any value").  DESIGN CHOICE (log 14): one word for one call, helper and operands together, since the helpers are
pure functions; two different calls share nothing. -/
opaque helperOverflow (call : HelperCall) : Word

/-- OPEN PARAMETER (log 14): what multiply and divide give for a shift count above 31, a range the source does not
give (43 R151, R152; 93 U7). -/
opaque helperLongShift (call : HelperCall) : Word

/-- FREE VALUE (log 14): `clamp` with its bounds the wrong way round (43 R149; 93 U7). -/
opaque clampInverted (a hi lo : Int) : Int

/-- OPEN PARAMETER (log 14): whether a real value strictly between two representable ones goes to the upper one
(43 R150; 93 U7). -/
opaque conversionRoundsUp (r : ℝ) : Bool

/-- OPEN PARAMETER (log 14): whether the quotient of a call is truncated toward zero rather than brought to its floor;
the two differ for a negative quotient that is no integer only (43 R152; 93 U7). -/
opaque quotientTruncates (call : HelperCall) : Bool

end Sys2Proof.Config
end

