-- ==== Sys2Proof/Syntax.lean ====
section
/-!
DEFINITION. The commands of the block, one constructor per row of spec/opcode_table.json (30 R72).
The operands are the whole port fields `a` and `b` of the command (30 R70): a field an operation ignores is
part of the command all the same, because the accept step latches it (30 R74).
-/

namespace Sys2Proof

/-- A command as the host presents it (30 R72). -/
inductive Instr where
  /-- `op = 0`: sine and cosine of the angle `a` (40 R94). -/
  | sincos (a b : Word)
  /-- `op = 1`: sine of the angle `a` (40 R95). -/
  | sin (a b : Word)
  /-- `op = 2`: cosine of the angle `a` (40 R96). -/
  | cos (a b : Word)
  /-- `op = 3`: angle of the vector with `y = a` and `x = b` (41 R115). -/
  | atan2 (a b : Word)
  /-- `op = 4`: integer square root of `a` (42 R133). -/
  | isqrt (a b : Word)
  /-- `op = 5`: reserved (30 R75, 60 R160). -/
  | illegal5 (a b : Word)
  /-- `op = 6`: reserved (30 R75, 60 R160). -/
  | illegal6 (a b : Word)
  /-- `op = 7`: reserved (30 R75, 60 R160). -/
  | illegal7 (a b : Word)
  deriving DecidableEq, Repr

end Sys2Proof
end

