-- ==== Sys2Proof/WellFormed.lean ====
section
/-!
DEFINITION. Which commands are legal to present, and which are in the form a written line takes.
-/

namespace Sys2Proof

/-- Every command is well formed: "Within a legal code every value of `a` and `b` is legal" (30 R76), and the
reserved codes are accepted "like any other" (30 R75).  There is no check that could refuse a term. -/
def Instr.wellFormed : Instr → Bool
  | .sincos _ _ => true
  | .sin _ _ => true
  | .cos _ _ => true
  | .atan2 _ _ => true
  | .isqrt _ _ => true
  | .illegal5 _ _ => true
  | .illegal6 _ _ => true
  | .illegal7 _ _ => true

/-- The form a written line gives a command: "An ignored `b` is written as 0 when a command is turned into a
`CMD` word" (30 R79).  A restriction of the notation only; the block accepts the other words too. -/
def Instr.canonical : Instr → Bool
  | .sincos _ b => b == 0#32
  | .sin _ b => b == 0#32
  | .cos _ b => b == 0#32
  | .atan2 _ _ => true
  | .isqrt _ b => b == 0#32
  | .illegal5 _ _ => true
  | .illegal6 _ _ => true
  | .illegal7 _ _ => true

end Sys2Proof
end

