-- ==== Sys2Proof/Decode.lean ====
section
/-!
DEFINITION. The 67-bit command word `CMD = {op, a, b}` (30 R70), its decoder, total on every word (30 R78), the
decoder's form on a plain number, which rejects by name what is no command word, and the encoder.
-/

namespace Sys2Proof

/-- A packed command word (30 R70). -/
abbrev Cmd := BitVec 67

/-- `op = CMD[66:64]` (30 R70). -/
def cmdOp (w : Cmd) : BitVec 3 := w.extractLsb' 64 3

/-- `a = CMD[63:32]` (30 R70). -/
def cmdA (w : Cmd) : Word := w.extractLsb' 32 32

/-- `b = CMD[31:0]` (30 R70). -/
def cmdB (w : Cmd) : Word := w.extractLsb' 0 32

/-- The command that the three port fields stand for: the operation-code map (30 R72). -/
def Instr.ofFields (op : BitVec 3) (a b : Word) : Instr :=
  match op.toNat with
  | 0 => .sincos a b
  | 1 => .sin a b
  | 2 => .cos a b
  | 3 => .atan2 a b
  | 4 => .isqrt a b
  | 5 => .illegal5 a b
  | 6 => .illegal6 a b
  | _ => .illegal7 a b

/-- Decoding, total on all `2^67` words (30 R78). -/
def decode (w : Cmd) : Instr := Instr.ofFields (cmdOp w) (cmdA w) (cmdB w)

/-- Why a number is no command word. -/
inductive Reject where
  /-- The number has a bit at 67 or above, where the command port has no wire (30 R70). -/
  | widerThanCommandPort
  deriving DecidableEq, Repr

/-- Decoding of a number, numbered as spec/opcode_table.json numbers the bits of a row. -/
def decodeNumber (n : Nat) : Except Reject Instr :=
  if n < 2 ^ 67 then .ok (decode (BitVec.ofNat 67 n)) else .error .widerThanCommandPort

/-- The operation code of a command (30 R72). -/
def Instr.op : Instr → BitVec 3
  | .sincos _ _ => 0#3
  | .sin _ _ => 1#3
  | .cos _ _ => 2#3
  | .atan2 _ _ => 3#3
  | .isqrt _ _ => 4#3
  | .illegal5 _ _ => 5#3
  | .illegal6 _ _ => 6#3
  | .illegal7 _ _ => 7#3

/-- The operation code is one of the five legal ones (30 R78). -/
abbrev Instr.isLegal (i : Instr) : Prop := i.op.toNat ≤ 4

/-- The first operand field of a command (30 R73). -/
def Instr.a : Instr → Word
  | .sincos a _ => a
  | .sin a _ => a
  | .cos a _ => a
  | .atan2 a _ => a
  | .isqrt a _ => a
  | .illegal5 a _ => a
  | .illegal6 a _ => a
  | .illegal7 a _ => a

/-- The second operand field of a command (30 R73). -/
def Instr.b : Instr → Word
  | .sincos _ b => b
  | .sin _ b => b
  | .cos _ b => b
  | .atan2 _ b => b
  | .isqrt _ b => b
  | .illegal5 _ b => b
  | .illegal6 _ b => b
  | .illegal7 _ b => b

/-- The `CMD` word of a command: `{op, a, b}` (30 R70). -/
def encode (i : Instr) : Cmd := i.op ++ i.a ++ i.b

/-- The number of a command that is `nbits` wide and whose bits are `w`: every bit above `nbits` is 0. -/
def tableNumber (nbits w : Nat) : Nat := w % 2 ^ nbits

/-- The command the decoder reads from the bits `w` of an opcode-table row; none where it rejects. -/
def decodeTableWord (nbits w : Nat) : Option Instr :=
  match decodeNumber (tableNumber nbits w) with
  | .ok i => some i
  | .error _ => none

end Sys2Proof
end

