-- ==== Sys2Proof/Machine/Tables.lean ====
section
/-!
DEFINITION. The two read-only tables of the block: their types, the constraints the spec puts on every instance
of them (10 R33, R36), reading one word (20 R51, R52), and the spec's default instances (10 R34, R37).
-/

namespace Sys2Proof.Machine

/-- An instance of `SIN_TABLE`: exactly 256 words of 16 bits (10 R33 (a)). -/
abbrev SinTable := Vector RomWord 256

/-- An instance of `ATAN_TABLE`: exactly 13 words of 16 bits (10 R36 (a)). -/
abbrev AtanTable := Vector RomWord 13

/-- `MemRead(SINROM, k)`: every 8-bit index is a legal address (20 R51). -/
def memReadSin (t : SinTable) (k : BitVec 8) : RomWord := t[k.toNat]'k.isLt

/-- `MemRead(ATANROM, i)` for `i` in 0..12; no other index is ever presented (20 R52). -/
def memReadAtan (t : AtanTable) (i : Fin 13) : RomWord := t[i.val]'i.isLt

/-- The constraints of 10 R33 (b) and (c) on the sine table: entries at most 32767, non-decreasing, from 0 to
32767.  Clause (d), an approximation without a bound, constrains nothing (log 17). -/
abbrev SinTable.Ok (t : SinTable) : Prop :=
  (∀ k : Fin 256, t[k.val].toNat ≤ 32767) ∧
  (∀ k : Fin 255, t[k.val].toNat ≤ t[k.val + 1].toNat) ∧
  t[0].toNat = 0 ∧ t[255].toNat = 32767

/-- The constraints of 10 R36 on the arctangent table: entry 0 is 4096, the entries do not increase, and every
one is positive.  Clause (b), an approximation without a bound, fixes only entry 0 (log 17). -/
abbrev AtanTable.Ok (t : AtanTable) : Prop :=
  t[0].toNat = 4096 ∧
  (∀ i : Fin 12, t[i.val + 1].toNat ≤ t[i.val].toNat) ∧
  (∀ i : Fin 13, 0 < t[i.val].toNat)

/-- `SIGMA`: the sum of the thirteen arctangent words (41, head of the file). -/
def atanSigma (t : AtanTable) : Nat := (t.toList.map BitVec.toNat).sum

/-- Rows 0 to 7 of the default sine table (10 R34). -/
def sinRows0 : List RomWord :=
  [0, 201, 402, 603, 804, 1005, 1206, 1407,
   1608, 1809, 2009, 2210, 2411, 2611, 2811, 3012,
   3212, 3412, 3612, 3812, 4011, 4211, 4410, 4609,
   4808, 5007, 5205, 5404, 5602, 5800, 5998, 6195,
   6393, 6590, 6787, 6983, 7180, 7376, 7571, 7767,
   7962, 8157, 8351, 8546, 8740, 8933, 9127, 9319,
   9512, 9704, 9896, 10088, 10279, 10469, 10660, 10850,
   11039, 11228, 11417, 11605, 11793, 11980, 12167, 12354]

/-- Rows 8 to 15 of the default sine table (10 R34). -/
def sinRows1 : List RomWord :=
  [12540, 12725, 12910, 13095, 13279, 13463, 13646, 13828,
   14010, 14192, 14373, 14553, 14733, 14912, 15091, 15269,
   15447, 15624, 15800, 15976, 16151, 16326, 16500, 16673,
   16846, 17018, 17190, 17361, 17531, 17700, 17869, 18037,
   18205, 18372, 18538, 18703, 18868, 19032, 19195, 19358,
   19520, 19681, 19841, 20001, 20160, 20318, 20475, 20632,
   20788, 20943, 21097, 21251, 21403, 21555, 21706, 21856,
   22006, 22154, 22302, 22449, 22595, 22740, 22884, 23028]

/-- Rows 16 to 23 of the default sine table (10 R34). -/
def sinRows2 : List RomWord :=
  [23170, 23312, 23453, 23593, 23732, 23870, 24008, 24144,
   24279, 24414, 24548, 24680, 24812, 24943, 25073, 25202,
   25330, 25457, 25583, 25708, 25833, 25956, 26078, 26199,
   26320, 26439, 26557, 26674, 26791, 26906, 27020, 27133,
   27246, 27357, 27467, 27576, 27684, 27791, 27897, 28002,
   28106, 28209, 28311, 28411, 28511, 28610, 28707, 28803,
   28899, 28993, 29086, 29178, 29269, 29359, 29448, 29535,
   29622, 29707, 29792, 29875, 29957, 30038, 30118, 30196]

/-- Rows 24 to 31 of the default sine table (10 R34). -/
def sinRows3 : List RomWord :=
  [30274, 30350, 30425, 30499, 30572, 30644, 30715, 30784,
   30853, 30920, 30986, 31050, 31114, 31177, 31238, 31298,
   31357, 31415, 31471, 31527, 31581, 31634, 31686, 31737,
   31786, 31834, 31881, 31927, 31972, 32015, 32058, 32099,
   32138, 32177, 32214, 32251, 32286, 32319, 32352, 32383,
   32413, 32442, 32470, 32496, 32522, 32546, 32568, 32590,
   32610, 32629, 32647, 32664, 32679, 32693, 32706, 32718,
   32729, 32738, 32746, 32753, 32758, 32762, 32766, 32767]

/-- `SIN_TABLE_DEFAULT`, the spec's own instance (10 R34). -/
def sinTableDefault : SinTable :=
  ⟨(sinRows0 ++ sinRows1 ++ sinRows2 ++ sinRows3).toArray, by decide +kernel⟩

/-- `ATAN_TABLE_DEFAULT`, the spec's own instance (10 R37). -/
def atanTableDefault : AtanTable :=
  ⟨#[4096, 2418, 1278, 649, 326, 163, 81, 41, 20, 10, 5, 3, 1], rfl⟩

end Sys2Proof.Machine
end

