-- ==== Sys2Proof/Machine/State.lean ====
section
/-!
DEFINITION. The state of the block (10 R20, with DONE of R29), the host's side of the ports as plain data
(00 R16, 10 R28), the ways a step can stop, and the state right after reset (10 R38).
-/

namespace Sys2Proof.Machine

/-- The levels of the block's input ports at one rising edge of `clk` (10 R28). -/
structure Pins where
  rst : Bool
  cmdValid : Bool
  cmdOp : BitVec 3
  cmdA : Word
  cmdB : Word
  deriving DecidableEq, Repr

/-- Where the host takes an operand of a command from (30 R79). -/
inductive HostOperand where
  /-- A word of its own. -/
  | word (v : Word)
  /-- What it reads on port `res0`: the written operand `R0`. -/
  | res0
  /-- What it reads on port `res1`: the written operand `R1`. -/
  | res1
  deriving DecidableEq, Repr

/-- One thing the host does (70 R187 (c)). -/
inductive HostAction where
  /-- Present a command and hold it until the block has accepted it, then wait for its completion: the
  transaction level (70 R184, R187 (a)).  An operand copied from a result port is the value read there when the
  block is ready for the command, so that of the previous command (30 R79; log 5). -/
  | command (op : BitVec 3) (a b : HostOperand)
  /-- Drive the input ports for one clock edge: the micro-step level (70 R183). -/
  | edge (pins : Pins)
  deriving DecidableEq, Repr

/-- Everything the spec gives the block, and the host's coming actions.  The two tables are the constant part
of the tuple of 10 R20: the parameter each function of the block reads, written by no step (10 R39; log 1). -/
structure State where
  /-- Result register `R0` (10 R22). -/
  r0 : Word
  /-- Result register `R1` (10 R22). -/
  r1 : Word
  /-- Flag `ILL`: the last completed command had a reserved code (10 R25). -/
  ill : Bool
  /-- Flag `BUSY`: a command is in flight (10 R25). -/
  busy : Bool
  /-- The register behind port `rsp_valid` (10 R29). -/
  done : Bool
  /-- Operand latch `OP` (10 R21). -/
  op : BitVec 3
  /-- Operand latch `A` (10 R21). -/
  a : Word
  /-- Operand latch `B` (10 R21). -/
  b : Word
  /-- Working register `X` (10 R27). -/
  x : Word
  /-- Working register `Y` (10 R27). -/
  y : Word
  /-- Working register `ANG` (10 R27). -/
  ang : Word
  /-- Working register `QUAD` (10 R27). -/
  quad : BitVec 2
  /-- Working register `NUM` (10 R27). -/
  num : Word
  /-- Working register `ROOT` (10 R27). -/
  root : Word
  /-- Step counter `CNT` (10 R24, R27). -/
  cnt : BitVec 5
  /-- `SIN_TABLE`, the space SINROM (10 R30, R32). -/
  sinTable : SinTable
  /-- `ATAN_TABLE`, the space ATANROM (10 R30, R35). -/
  atanTable : AtanTable
  /-- The model's own field (log 5): what the host will do, the next action first. -/
  host : List HostAction
  /-- The model's own field (log 4): how many reset steps have drawn free values. -/
  draws : Nat
  deriving DecidableEq, Repr

/-- Why the machine stops with a fault. -/
inductive Fault where
  /-- Raised by `clockEdge` (and through it by any meaning whose command is presented while `BUSY = 1`) when
  `BUSY = 1`, `OP` is 3 or 4 and `CNT` is above the last value of the loop: 70 R183 has no row for such a state
  and no run reaches one (log 8).  Safe. -/
  | stepCounterBeyondLoop
  deriving DecidableEq, Repr

/-- Why the machine refuses an instruction. -/
inductive Refusal where
  /-- Raised by `exec` for an instruction that has no meaning yet; every instruction has one, so it is never
  raised.  Safe. -/
  | notModelled (mnemonic : String)
  deriving DecidableEq, Repr

/-- The block right after a reset step, with nothing asked of it by the host.  R0, R1, ILL, BUSY, DONE are the
spec's (10 R38).  The unspecified registers are 0 (DESIGN CHOICE, log 3), the tables the spec's default
instances (DESIGN CHOICE, log 2), `host` and `draws` the model's own (log 5, log 4). -/
def State.reset : State where
  r0 := 0#32
  r1 := 0#32
  ill := false
  busy := false
  done := false
  op := 0#3
  a := 0#32
  b := 0#32
  x := 0#32
  y := 0#32
  ang := 0#32
  quad := 0#2
  num := 0#32
  root := 0#32
  cnt := 0#5
  sinTable := sinTableDefault
  atanTable := atanTableDefault
  host := []
  draws := 0

end Sys2Proof.Machine
end

