-- ==== Sys2Proof/Machine/Operands.lean ====
section
/-!
DEFINITION. How operands are read: the word primitives (00 R12 to R14), the bit fields of an angle (40 R91) and
the zero-extension of a table word (20 R51, R52).
-/

namespace Sys2Proof.Machine

/-- `add32`: wraps modulo `2^32` (00 R12). -/
def add32 (a b : Word) : Word := a + b

/-- `sub32`: wraps modulo `2^32` (00 R12). -/
def sub32 (a b : Word) : Word := a - b

/-- `neg32(a) = sub32(0, a)`; `neg32(0x80000000) = 0x80000000` (00 R12). -/
def neg32 (a : Word) : Word := sub32 0#32 a

/-- `asr32`: arithmetic right shift, the pattern of `floor(S(a) / 2^i)` (00 R12, R14). -/
def asr32 (a : Word) (i : Nat) : Word := a.sshiftRight i

/-- `lsr32`: logical right shift, `floor(U(a) / 2^i)` (00 R12). -/
def lsr32 (a : Word) (i : Nat) : Word := a >>> i

/-- `a <s 0`: the signed reading is negative (00 R12). -/
def isNegative (a : Word) : Bool := a.slt 0#32

/-- `a <=u b`: the unsigned readings compare (00 R12). -/
def leUnsigned (a b : Word) : Bool := a.ule b

/-- `zext_32` of a table word: never sign-extended (20 R51 to R53). -/
def zext32 (w : RomWord) : Word := w.setWidth 32

/-- Position `p = theta[14:5]` (40 R91). -/
def anglePosition (theta : Word) : BitVec 10 := theta.extractLsb' 5 10

/-- Index `k = theta[12:5]` (40 R91). -/
def angleIndex (theta : Word) : BitVec 8 := theta.extractLsb' 5 8

/-- Quadrant `q = theta[14:13]` (40 R91). -/
def angleQuadrant (theta : Word) : BitVec 2 := theta.extractLsb' 13 2

/-- Complement index `kc = (255 - k) mod 256` (20 R53, 40 R91). -/
def complementIndex (k : BitVec 8) : BitVec 8 := 255#8 - k

end Sys2Proof.Machine
end

