-- ==== Sys2Proof/Machine/Engines.lean ====
section
/-!
DEFINITION. The three engines as pure functions of their operands and tables: `SINCOS_F` (40 R90 to R93),
`ATAN2_F` (41 R110 to R115) and `ISQRT_F` (42 R130 to R133), each from its single step.
-/

namespace Sys2Proof.Machine

/-- `SINCOS_F(theta)`: quadrant dispatch over the two table words (40 R93). -/
def sincosF (t : SinTable) (theta : Word) : Word × Word :=
  let k := angleIndex theta
  let tk := zext32 (memReadSin t k)
  let tkc := zext32 (memReadSin t (complementIndex k))
  match (angleQuadrant theta).toNat with
  | 0 => (tk, tkc)
  | 1 => (tkc, neg32 tk)
  | 2 => (neg32 tk, neg32 tkc)
  | _ => (neg32 tkc, tk)

/-- The vector and accumulator the rotation works on: `X`, `Y`, `ANG` (10 R27). -/
structure Rotation where
  x : Word
  y : Word
  ang : Word
  deriving DecidableEq, Repr

/-- The quadrant `REDUCE` records (41 R111). -/
def reduceQuadrant (y x : Word) : BitVec 2 :=
  match isNegative x, isNegative y with
  | false, false => 0#2
  | true, false => 1#2
  | true, true => 2#2
  | false, true => 3#2

/-- A component after the reduction: negated exactly when negative (41 R111). -/
def reduceComponent (v : Word) : Word := if isNegative v then neg32 v else v

/-- The reduced vector with the accumulator's start value 0 (41 R111, R112). -/
def reduceStart (y x : Word) : Rotation := ⟨reduceComponent x, reduceComponent y, 0#32⟩

/-- `STEP(i, X, Y, ANG)`: both components from the old ones, the test on the sign of `Y` alone (41 R113). -/
def atanStep (t : AtanTable) (i : Fin 13) (v : Rotation) : Rotation :=
  let ys := asr32 v.y i.val
  let xs := asr32 v.x i.val
  let d := zext32 (memReadAtan t i)
  if isNegative v.y then ⟨sub32 v.x ys, add32 v.y xs, add32 v.ang d⟩
  else ⟨add32 v.x ys, sub32 v.y xs, sub32 v.ang d⟩

/-- The first `n` iterations, `i = 0 .. n-1`; there are only thirteen (41 R113). -/
def atanLoop (t : AtanTable) (v : Rotation) : Nat → Rotation
  | 0 => v
  | n + 1 => if h : n < 13 then atanStep t ⟨n, h⟩ (atanLoop t v n) else atanLoop t v n

/-- `CORRECT(q, a)` (41 R114). -/
def correct (q : BitVec 2) (ang : Word) : Word :=
  match q.toNat with
  | 0 => neg32 ang
  | 1 => add32 Config.halfTurn ang
  | 2 => sub32 Config.halfTurn ang
  | _ => add32 Config.fullTurn ang

/-- `ATAN2_F(y, x)` (41 R115). -/
def atan2F (t : AtanTable) (y x : Word) : Word :=
  correct (reduceQuadrant y x) (atanLoop t (reduceStart y x) 13).ang

/-- The remaining value and the running root: `NUM`, `ROOT` (10 R27). -/
structure RootPair where
  num : Word
  root : Word
  deriving DecidableEq, Repr

/-- `SQSTEP(i, NUM, ROOT)`: `temp` from the root before the halving, unsigned test (42 R132). -/
def sqrtStep (i : Nat) (v : RootPair) : RootPair :=
  let bit := 1#32 <<< i
  let temp := add32 v.root bit
  let half := lsr32 v.root 1
  if leUnsigned temp v.num then ⟨sub32 v.num temp, add32 half bit⟩ else ⟨v.num, half⟩

/-- The start of the recurrence: `NUM = n`, `ROOT = 0` (42 R131). -/
def sqrtStart (n : Word) : RootPair := ⟨n, 0#32⟩

/-- The first `n` iterations, the `j`-th at bit position `30 - 2*j` (42 R132, 10 R27). -/
def sqrtLoop (v : RootPair) : Nat → RootPair
  | 0 => v
  | n + 1 => sqrtStep (30 - 2 * n) (sqrtLoop v n)

/-- "Terminal result `r` is the integer square root" (42 R133). -/
def RootPair.result (v : RootPair) : Word := v.root

/-- `ISQRT_F(n)` (42 R133). -/
def isqrtF (n : Word) : Word := (sqrtLoop (sqrtStart n) 16).result

end Sys2Proof.Machine
end

