-- ==== Sys2Proof/Machine/Flags.lean ====
section
/-!
DEFINITION. The flags `BUSY`, `ILL` and the pulse register `DONE` (10 R25, R29): what sets and clears them, and
the read-only status word over them (10 R26).  No engine sets a carry, overflow, zero or sign flag (10 R25).
-/

namespace Sys2Proof.Machine

/-- Flags at an accept step: `BUSY <- 1`, `DONE <- 0` (70 R183). -/
def State.flagsAccept (s : State) : State := { s with busy := true, done := false }

/-- Flags at a complete step: `BUSY <- 0`, `DONE <- 1`, and `ILL` as the command was reserved or legal
(10 R25, 70 R183). -/
def State.flagsComplete (s : State) (reserved : Bool) : State :=
  { s with ill := reserved, busy := false, done := true }

/-- `DONE <- 0`, as every edge but a complete step does (10 R29). -/
def State.clearDone (s : State) : State := { s with done := false }

/-- One bit as a word. -/
def bitWord (b : Bool) : Word := if b then 1#32 else 0#32

/-- The status word: `STATUS[0] = BUSY`, `STATUS[1] = ILL`, `STATUS[31:2] = 0`, read only (10 R26). -/
def State.status (s : State) : Word := bitWord s.ill <<< 1 ||| bitWord s.busy

end Sys2Proof.Machine
end

