-- ==== Sys2Proof/Machine/Ops.lean ====
section
/-!
DEFINITION. The named operations on the registers: latching a command, delivering results, the one fault-like
event `IllegalOp` (60 R160), and the reset step (70 R180).  There is no trap entry that saves anything and no
return from one (60 R165, R166).
-/

namespace Sys2Proof.Machine

/-- The accept step's writes common to every command: `OP, A, B` and the flags (70 R183). -/
def State.latch (s : State) (op : BitVec 3) (a b : Word) : State :=
  { s with op := op, a := a, b := b }.flagsAccept

/-- The command in the operand latches (10 R21, 30 R72). -/
def State.latched (s : State) : Instr := Instr.ofFields s.op s.a s.b

/-- The complete step of a legal command with one result: `R0 <- v; ILL <- 0; BUSY <- 0`, `R1` kept (10 R22). -/
def State.deliver (s : State) (v : Word) : State := { s with r0 := v }.flagsComplete false

/-- The complete step of `SINCOS`: `R0 <- v; R1 <- w; ILL <- 0; BUSY <- 0` (10 R22, 40 R94). -/
def State.deliverPair (s : State) (v w : Word) : State := { s with r0 := v, r1 := w }.flagsComplete false

/-- `raise IllegalOp`: `ILL <- 1; BUSY <- 0`, `R0` and `R1` kept, nothing saved, no control transfer (60 R160). -/
def State.raiseIllegalOp (s : State) : State := s.flagsComplete true

/-- The reset step: the registers of 10 R38 take their values, the unspecified ones a fresh free value each
(log 4), the tables and the host's list stay (70 R180). -/
def State.resetStep (s : State) : State :=
  { s with
    r0 := 0#32, r1 := 0#32, ill := false, busy := false, done := false
    op := Config.unspecified 3 .op s.draws
    a := Config.unspecified 32 .a s.draws
    b := Config.unspecified 32 .b s.draws
    x := Config.unspecified 32 .x s.draws
    y := Config.unspecified 32 .y s.draws
    ang := Config.unspecified 32 .ang s.draws
    quad := Config.unspecified 2 .quad s.draws
    num := Config.unspecified 32 .num s.draws
    root := Config.unspecified 32 .root s.draws
    cnt := Config.unspecified 5 .cnt s.draws
    draws := s.draws + 1 }

end Sys2Proof.Machine
end

