-- ==== Sys2Proof/Machine/Clock.lean ====
section
/-!
DEFINITION. The step machine of 70 R183: what one rising edge of `clk` does, and how a whole command is issued
at the transaction level (70 R184).
-/

namespace Sys2Proof.Machine

/-- What an edge does with the state it leaves, or the fault it stops with. -/
abbrev StepOutcome := Host.Outcome State Fault Refusal

/-- Input levels of a host that does nothing. -/
def Pins.idle : Pins := ⟨false, false, 0#3, 0#32, 0#32⟩

/-- Input levels of a host that presents a command. -/
def Pins.present (op : BitVec 3) (a b : Word) : Pins := ⟨false, true, op, a, b⟩

/-- Input levels of a host that asserts `rst` (30 R79 `RESET`). -/
def Pins.reset : Pins := ⟨true, false, 0#3, 0#32, 0#32⟩

/-- `N(OP)`: iterate steps of the command, `N(3) = 13`, `N(4) = 16`, none for the others (70 R183). -/
def iterations (op : BitVec 3) : Nat :=
  match op.toNat with
  | 3 => 13
  | 4 => 16
  | _ => 0

/-- `LAT(op)`: clock edges from the accept edge to the complete edge (70 R186). -/
def latency (op : BitVec 3) : Nat := iterations op + 1

/-- Load `X, Y, ANG` (10 R27). -/
def State.setRotation (s : State) (v : Rotation) : State := { s with x := v.x, y := v.y, ang := v.ang }

/-- `X, Y, ANG` as one value (10 R27). -/
def State.rotation (s : State) : Rotation := ⟨s.x, s.y, s.ang⟩

/-- Load `NUM, ROOT` (10 R27). -/
def State.setRootPair (s : State) (v : RootPair) : State := { s with num := v.num, root := v.root }

/-- `NUM, ROOT` as one value (10 R27). -/
def State.rootPair (s : State) : RootPair := ⟨s.num, s.root⟩

/-- Load `QUAD` (10 R27). -/
def State.setQuadrant (s : State) (q : BitVec 2) : State := { s with quad := q }

/-- Load the step counter `CNT` (10 R24). -/
def State.setCount (s : State) (n : BitVec 5) : State := { s with cnt := n }

/-- The accept step: the latches and flags, and the working registers of the iterative engines (70 R183; 41 R123,
42 R137 accept lines). -/
def State.acceptStep (s : State) (op : BitVec 3) (a b : Word) : State :=
  match op.toNat with
  | 3 => (((s.latch op a b).setRotation (reduceStart a b)).setQuadrant (reduceQuadrant a b)).setCount 0#5
  | 4 => ((s.latch op a b).setRootPair (sqrtStart a)).setCount 0#5
  | _ => s.latch op a b

/-- The iterate step: one loop body at `i = CNT`, then `CNT <- CNT + 1` (70 R183; 41 R123, 42 R137 iterate lines). -/
def State.iterateStep (s : State) : State :=
  match s.op.toNat with
  | 3 =>
    if h : s.cnt.toNat < 13 then
      ((s.setRotation (atanStep s.atanTable ⟨s.cnt.toNat, h⟩ s.rotation)).setCount (s.cnt + 1#5)).clearDone
    else s
  | 4 => ((s.setRootPair (sqrtStep (30 - 2 * s.cnt.toNat) s.rootPair)).setCount (s.cnt + 1#5)).clearDone
  | _ => s

/-- The complete step of the command in the latches (70 R183; 40 R94 to R96, 41 R123, 42 R137, 60 R160). -/
def State.completeStep (s : State) : State :=
  match s.latched with
  | .sincos a _ => s.deliverPair (sincosF s.sinTable a).1 (sincosF s.sinTable a).2
  | .sin a _ => s.deliver (sincosF s.sinTable a).1
  | .cos a _ => s.deliver (sincosF s.sinTable a).2
  | .atan2 _ _ => s.deliver (correct s.quad s.ang)
  | .isqrt _ _ => s.deliver s.root
  | .illegal5 _ _ => s.raiseIllegalOp
  | .illegal6 _ _ => s.raiseIllegalOp
  | .illegal7 _ _ => s.raiseIllegalOp

/-- One rising edge of `clk` with the given input levels (70 R183).  Reset has priority over everything (70 R180);
while `BUSY = 1` the command inputs are not looked at. -/
def clockEdge (p : Pins) (s : State) : StepOutcome :=
  if p.rst then .next s.resetStep
  else if s.busy then
    if s.cnt.toNat < iterations s.op then .next s.iterateStep
    else if iterations s.op = 0 ∨ s.cnt.toNat = iterations s.op then .next s.completeStep
    else .fault .stepCounterBeyondLoop
  else if p.cmdValid then .next (s.acceptStep p.cmdOp p.cmdA p.cmdB)
  else .next s.clearDone

/-- A whole command at the transaction level: accepted, run and completed, `effect` giving the state after
completion from the state with the command latched (70 R184).  Presented while `BUSY = 1` it is not accepted: the
edge passes as any other with the command inputs not looked at (70 R183, R185 (e); log 7). -/
def issue (op : BitVec 3) (a b : Word) (s : State) (effect : State → State) : StepOutcome :=
  if s.busy then clockEdge (Pins.present op a b) s else .next (effect (s.latch op a b))

end Sys2Proof.Machine
end

