-- ==== Sys2Proof/Machine/Atan2.lean ====
section
/-!
DEFINITION. The meaning of `ATAN2` (41 R115).
-/

namespace Sys2Proof.Machine

/-- Where a completed `ATAN2` leaves the working registers and `R0`, from the vector after the last iteration and the
recorded quadrant (41 R114, R123). -/
def State.finishAtan2 (s : State) (v : Rotation) (q : BitVec 2) : State :=
  (((s.setRotation v).setQuadrant q).setCount 13#5).deliver (correct q v.ang)

/-- `ATAN2 y, x` with `y = a`, `x = b`: the working registers are left as the last iterate step leaves them, and
`R0` takes the corrected accumulator, which is `ATAN2_F(y, x)` (41 R115, R123). -/
def execAtan2 (a b : Word) (s : State) : StepOutcome :=
  issue 3#3 a b s fun t =>
    t.finishAtan2 (atanLoop t.atanTable (reduceStart a b) 13) (reduceQuadrant a b)

end Sys2Proof.Machine
end

