-- ==== Sys2Proof/Machine/Illegal.lean ====
section
/-!
DEFINITION. The meanings of the reserved operation codes 5, 6 and 7: each raises `IllegalOp` (30 R75, 60 R160).
-/

namespace Sys2Proof.Machine

/-- A command with the reserved code 5 (60 R160). -/
def execIllegal5 (a b : Word) (s : State) : StepOutcome := issue 5#3 a b s State.raiseIllegalOp

/-- A command with the reserved code 6 (60 R160). -/
def execIllegal6 (a b : Word) (s : State) : StepOutcome := issue 6#3 a b s State.raiseIllegalOp

/-- A command with the reserved code 7 (60 R160). -/
def execIllegal7 (a b : Word) (s : State) : StepOutcome := issue 7#3 a b s State.raiseIllegalOp

end Sys2Proof.Machine
end

