-- ==== Sys2Proof/Machine/Isqrt.lean ====
section
/-!
DEFINITION. The meaning of `ISQRT` (42 R133).
-/

namespace Sys2Proof.Machine

/-- Where a completed `ISQRT` leaves the working registers and `R0`, from the pair after the last iteration
(42 R133, R137). -/
def State.finishIsqrt (s : State) (v : RootPair) : State :=
  ((s.setRootPair v).setCount 16#5).deliver v.result

/-- `ISQRT n` with `n = a`; `b` is latched and ignored; the working registers are left as the last iterate step
leaves them, and `R0` takes the root, which is `ISQRT_F(n)` (42 R133, R137). -/
def execIsqrt (a b : Word) (s : State) : StepOutcome :=
  issue 4#3 a b s fun t => t.finishIsqrt (sqrtLoop (sqrtStart a) 16)

end Sys2Proof.Machine
end

