-- ==== Sys2Proof/Machine/SinCos.lean ====
section
/-!
DEFINITION. The meanings of `SINCOS`, `SIN` and `COS` (40 R94 to R96).
-/

namespace Sys2Proof.Machine

/-- `SINCOS theta` with `theta = a`; `b` is latched and ignored (40 R94). -/
def execSincos (a b : Word) (s : State) : StepOutcome :=
  issue 0#3 a b s fun t => t.deliverPair (sincosF t.sinTable a).1 (sincosF t.sinTable a).2

/-- `SIN theta` with `theta = a`; `R1` keeps its value (40 R95). -/
def execSin (a b : Word) (s : State) : StepOutcome :=
  issue 1#3 a b s fun t => t.deliver (sincosF t.sinTable a).1

/-- `COS theta` with `theta = a`; the cosine goes to `R0`, `R1` keeps its value (40 R96). -/
def execCos (a b : Word) (s : State) : StepOutcome :=
  issue 2#3 a b s fun t => t.deliver (sincosF t.sinTable a).2

end Sys2Proof.Machine
end

