-- ==== Sys2Proof/Machine/Dispatch.lean ====
section
/-! DEFINITION. One arm per command, in the order of the operation codes (30 R72). -/

namespace Sys2Proof.Machine

def exec (i : Instr) (s : State) : Host.Outcome State Fault Refusal :=
  match i with
  | .sincos a b => Sys2Proof.Machine.execSincos a b s
  | .sin a b => Sys2Proof.Machine.execSin a b s
  | .cos a b => Sys2Proof.Machine.execCos a b s
  | .atan2 a b => Sys2Proof.Machine.execAtan2 a b s
  | .isqrt a b => Sys2Proof.Machine.execIsqrt a b s
  | .illegal5 a b => Sys2Proof.Machine.execIllegal5 a b s
  | .illegal6 a b => Sys2Proof.Machine.execIllegal6 a b s
  | .illegal7 a b => Sys2Proof.Machine.execIllegal7 a b s

end Sys2Proof.Machine
end

