-- ==== Sys2Proof/Machine/Ports.lean ====
section
/-!
DEFINITION. The output ports and the packed response word: views of the registers, adding no state (10 R28, R29;
30 R71).
-/

namespace Sys2Proof.Machine

/-- The block's output ports (10 R28). -/
structure Outputs where
  cmdReady : Bool
  busy : Bool
  rspValid : Bool
  rspErr : Bool
  res0 : Word
  res1 : Word
  deriving DecidableEq, Repr

/-- Every output is a function of the registers alone (10 R29). -/
def State.outputs (s : State) : Outputs where
  cmdReady := !s.busy
  busy := s.busy
  rspValid := s.done
  rspErr := s.ill
  res0 := s.r0
  res1 := s.r1

/-- The result format `RSP = {err, r0, r1}`, 65 bits (30 R71). -/
def State.rsp (s : State) : BitVec 65 := BitVec.ofBool s.ill ++ s.r0 ++ s.r1

end Sys2Proof.Machine
end

