-- ==== Sys2Proof/Machine/Fetch.lean ====
section
/-!
DEFINITION. Where the block gets its next command from: the host (00 R16, 10 R24: there is no program counter and
no instruction memory).
-/

namespace Sys2Proof.Machine

/-- What the next step is to do, and on which state. -/
inductive Turn where
  /-- One clock edge with these input levels. -/
  | clock (p : Pins) (s : State)
  /-- The command the host presents. -/
  | run (i : Instr) (s : State)
  deriving DecidableEq, Repr

/-- The word the host puts on an operand port, given what it reads on `res0` and `res1` (30 R79). -/
def HostOperand.read (o : HostOperand) (res0 res1 : Word) : Word :=
  match o with
  | .word v => v
  | .res0 => res0
  | .res1 => res1

/-- The command the host presents, its copied operands read on the output ports of `s` (30 R79). -/
def State.presented (s : State) (op : BitVec 3) (a b : HostOperand) : Instr :=
  Instr.ofFields op (a.read s.outputs.res0 s.outputs.res1) (b.read s.outputs.res0 s.outputs.res1)

/-- The host's next action: a host with nothing to do leaves the inputs idle, a command presented while `BUSY = 1`
is held (70 R187 (a)) and otherwise taken off the list with its acceptance (log 5, log 7). -/
def nextTurn (s : State) : Turn :=
  match s.host with
  | [] => .clock Pins.idle s
  | .edge p :: rest => .clock p { s with host := rest }
  | .command op a b :: rest => .run (s.presented op a b) (if s.busy then s else { s with host := rest })

/-- The host presents the command word `w` next, to a block that is ready for it (log 9). -/
def State.presentWord (s : State) (w : Cmd) : State :=
  { s with busy := false, host := .command (cmdOp w) (.word (cmdA w)) (.word (cmdB w)) :: s.host }

/-- The host presents the command whose number is `n`; a number that is no command word cannot be presented on the
ports and changes nothing (log 10). -/
def State.presentNumber (s : State) (n : Nat) : State :=
  if n < 2 ^ 67 then s.presentWord (BitVec.ofNat 67 n) else s

end Sys2Proof.Machine
end

