-- ==== Sys2Proof/Machine/Step.lean ====
section
/-!
DEFINITION. One step of the machine: the host's next action, a clock edge or a whole command (00 R15, 70 R183, R184).
-/

namespace Sys2Proof.Machine

/-- One step. -/
def step (s : State) : Host.Outcome State Fault Refusal :=
  match nextTurn s with
  | .clock p t => clockEdge p t
  | .run i t => exec i t

/-- `s` with the command whose bits are `w` presented next: `step` of it runs exactly that command (log 9, log 10). -/
def State.withFetchWord (s : State) (nbits w : Nat) : State := s.presentNumber (tableNumber nbits w)

end Sys2Proof.Machine
end

