-- ==== Sys2Proof/Machine/Helpers.lean ====
section
/-!
DEFINITION. The source's scalar helpers as reference functions OUTSIDE the block (00 R6, 43 R145 to R153): no command
computes one and no engine uses one.  They are on mathematical integers; `narrow` brings a result back to a word.
-/

namespace Sys2Proof.Machine

/-- A helper's mathematical result as a 32-bit word: itself when it fits, a free value when it does not (43 R145;
log 14). -/
def helperNarrow (call : Config.HelperCall) (v : Int) : Word :=
  if -2 ^ 31 ≤ v ∧ v < 2 ^ 31 then BitVec.ofInt 32 v else Config.helperOverflow call

/-- `abs(a)` (43 R146). -/
def helperAbs (a : Word) : Word :=
  helperNarrow (.abs a) (if 0 ≤ a.signed then a.signed else -a.signed)

/-- `sign(a)`: -1 or 1, zero treated as positive (43 R147). -/
def helperSign (a : Word) : Int := if a.signed < 0 then -1 else 1

/-- `min(a, b)` (43 R148). -/
def helperMin (a b : Int) : Int := if a ≤ b then a else b

/-- `max(a, b)` (43 R148). -/
def helperMax (a b : Int) : Int := if a ≤ b then b else a

/-- `clamp(a, hi, lo)`, the upper bound before the lower; not specified for `hi < lo` (43 R149; log 14). -/
def helperClamp (a hi lo : Int) : Int :=
  if hi < lo then Config.clampInverted a hi lo
  else if hi < a then hi
  else if a < lo then lo
  else a

/-- The real value of a Q15 word: `v / 32768`, exact (43 R150). -/
def helperToReal (v : Word) : Rat := (v.signed : Rat) / 2 ^ Config.fractionalBits

/-- Any real value brought to Q15: exact for a multiple of `2^-15`; else one of the two neighbouring integers, which
one is a parameter (43 R150; log 14).  The one function of the model that does not compute: its argument is a real
number, and nothing else uses it. -/
noncomputable def helperFromReal (r : ℝ) : Word :=
  let scaled := r * 2 ^ Config.fractionalBits
  helperNarrow (.fromReal r) (if Config.conversionRoundsUp r then ⌈scaled⌉ else ⌊scaled⌋)

/-- `mul(a, b, C) = (a * b) >> C` with a wide intermediate and an arithmetic shift, for `C` up to 31 (43 R151); above,
where the source gives no range, an open parameter (93 U7; log 14). -/
def helperMul (a b : Word) (c : Nat) : Word :=
  if c ≤ 31 then helperNarrow (.mul a b c) ((a.signed * b.signed) / 2 ^ c)
  else Config.helperLongShift (.mul a b c)

/-- `div(a, b, C) = (a << C) / b` with a wide intermediate: refused for `b = 0`; whether the quotient is truncated
toward zero or brought to its floor is a parameter, and the two agree unless the operands differ in sign; a shift count
above 31, whose range the source does not give, is an open parameter too (43 R152; 93 U6, U7; log 14). -/
def helperDiv (a b : Word) (c : Nat) : Option Word :=
  let n := a.signed * 2 ^ c
  let d := b.signed
  if d = 0 then none
  else if 31 < c then some (Config.helperLongShift (.div a b c))
  else some (helperNarrow (.div a b c) (if Config.quotientTruncates (.div a b c) then n.tdiv d else n.fdiv d))

end Sys2Proof.Machine
end

