-- ==== Sys2Proof/Machine/Transaction.lean ====
section
/-!
DEFINITION. The transaction level as the spec writes it: the big-step function `EXEC` on the architectural state
`(R0, R1, ILL)` (00 R15, 70 R184).
-/

namespace Sys2Proof.Machine

/-- The architectural state between commands (70 R184). -/
structure Arch where
  r0 : Word
  r1 : Word
  ill : Bool
  deriving DecidableEq, Repr

/-- The architectural part of a state. -/
def State.arch (s : State) : Arch := ⟨s.r0, s.r1, s.ill⟩

/-- `EXEC((R0, R1, ILL), (op, a, b))` (70 R184). -/
def execArch (sinT : SinTable) (atanT : AtanTable) (c : Arch) (i : Instr) : Arch :=
  match i with
  | .sincos a _ => ⟨(sincosF sinT a).1, (sincosF sinT a).2, false⟩
  | .sin a _ => ⟨(sincosF sinT a).1, c.r1, false⟩
  | .cos a _ => ⟨(sincosF sinT a).2, c.r1, false⟩
  | .atan2 a b => ⟨atan2F atanT a b, c.r1, false⟩
  | .isqrt a _ => ⟨isqrtF a, c.r1, false⟩
  | .illegal5 _ _ => ⟨c.r0, c.r1, true⟩
  | .illegal6 _ _ => ⟨c.r0, c.r1, true⟩
  | .illegal7 _ _ => ⟨c.r0, c.r1, true⟩

/-- `RESET(_) = (0, 0, 0)` (70 R184). -/
def resetArch : Arch := ⟨0#32, 0#32, false⟩

/-- A host action of the transaction level: a command, of which an operand may be copied from a result of the
command before it (30 R79), or a reset step (70 R184, R188). -/
inductive Transaction where
  | command (op : BitVec 3) (a b : HostOperand)
  | reset
  deriving DecidableEq, Repr

/-- One transaction on the architectural state (70 R184). -/
def Transaction.onArch (sinT : SinTable) (atanT : AtanTable) (c : Arch) : Transaction → Arch
  | .command op a b => execArch sinT atanT c (Instr.ofFields op (a.read c.r0 c.r1) (b.read c.r0 c.r1))
  | .reset => resetArch

end Sys2Proof.Machine
end

