-- ==== Sys2Proof/Machine/Lines.lean ====
section
/-!
DEFINITION. The written lines of the spec's examples (30 R79) and the host actions they stand for.
-/

namespace Sys2Proof.Machine

/-- A written operand: the integer written, or `R0` or `R1` (30 R79). -/
inductive LineOperand where
  | number (v : Int)
  /-- "the host copies the value it reads on `res0`" (30 R79). -/
  | r0
  /-- The same of `res1` (30 R79). -/
  | r1
  deriving DecidableEq, Repr

/-- One line of the text notation (30 R79). -/
inductive Line where
  | sincos (theta : LineOperand)
  | sin (theta : LineOperand)
  | cos (theta : LineOperand)
  | atan2 (y x : LineOperand)
  | isqrt (n : LineOperand)
  /-- `.ILLEGAL op, a, b` for `op` = 5, 6, 7: the constructor's field is `op - 5`. -/
  | illegal (op : Fin 3) (a b : LineOperand)
  | reset
  deriving DecidableEq, Repr

/-- The 32-bit pattern of a written number, a negative one meaning its two's complement pattern (30 R79).
DESIGN CHOICE (log 18): a number below `-2^31` or from `2^32` on, of which the spec says nothing, is taken modulo
`2^32`. -/
def operandWord (v : Int) : Word := BitVec.ofInt 32 v

/-- Where the host takes a written operand from (30 R79). -/
def LineOperand.host : LineOperand → HostOperand
  | .number v => .word (operandWord v)
  | .r0 => .res0
  | .r1 => .res1

/-- The command or reset a line stands for; an ignored `b` is 0 (30 R79). -/
def Line.transaction : Line → Transaction
  | .sincos v => .command 0#3 v.host (.word 0#32)
  | .sin v => .command 1#3 v.host (.word 0#32)
  | .cos v => .command 2#3 v.host (.word 0#32)
  | .atan2 y x => .command 3#3 y.host x.host
  | .isqrt n => .command 4#3 n.host (.word 0#32)
  | .illegal k a b => .command (BitVec.ofNat 3 (5 + k.val)) a.host b.host
  | .reset => .reset

/-- What the host does for a transaction: it presents the command and waits, or asserts `rst` for one edge
(30 R79, 70 R184). -/
def Transaction.action : Transaction → HostAction
  | .command op a b => .command op a b
  | .reset => .edge Pins.reset

/-- A program: lines issued by the host in order, each after the previous one completed (30 R79). -/
def programActions (lines : List Line) : List HostAction := lines.map fun l => l.transaction.action

end Sys2Proof.Machine
end

