-- ==== Sys2Proof/Safety.lean ====
section
/-!
DEFINITION. The terms claims use: the invariant of the block, what a run's end is, and runs of clock edges.
-/

namespace Sys2Proof.Machine

/-- The command in flight is where its own loop says it is: while `BUSY = 1` the working registers of an iterative
command are those of the source's loop after `CNT` iterations on the latched operands (41 R123, 42 R137). -/
def State.InFlight (s : State) : Prop :=
  s.busy = true →
    match s.latched with
    | .atan2 a b =>
      s.cnt.toNat ≤ 13 ∧ s.quad = reduceQuadrant a b ∧
        s.rotation = atanLoop s.atanTable (reduceStart a b) s.cnt.toNat
    | .isqrt a _ => s.cnt.toNat ≤ 16 ∧ s.rootPair = sqrtLoop (sqrtStart a) s.cnt.toNat
    | .sincos _ _ => True
    | .sin _ _ => True
    | .cos _ _ => True
    | .illegal5 _ _ => True
    | .illegal6 _ _ => True
    | .illegal7 _ _ => True

/-- The tables meet the constraints the spec puts on them (10 R33, R36). -/
def State.TablesOk (s : State) : Prop := s.sinTable.Ok ∧ s.atanTable.Ok

/-- `DONE` is never set while a command is in flight (10 R29, 70 R183). -/
def State.PulseOk (s : State) : Prop := s.busy = true → s.done = false

/-- The invariant every step keeps. -/
def State.Inv (s : State) : Prop := s.InFlight ∧ s.PulseOk ∧ s.TablesOk

/-- A run is over when `BUSY = 0` and no command is presented (70 R188). -/
def State.runOver (s : State) : Prop := s.busy = false ∧ s.host = []

/-- Successive clock edges with these input levels, stopping at the first that is no next state (70 R183). -/
def clockEdges : List Pins → State → StepOutcome
  | [], s => .next s
  | p :: ps, s =>
    match clockEdge p s with
    | .next t => clockEdges ps t
    | .fault f => .fault f
    | .refused r => .refused r

/-- `n` steps of the machine, stopping at the first that is no next state. -/
def runSteps : Nat → State → StepOutcome
  | 0, s => .next s
  | n + 1, s =>
    match step s with
    | .next t => runSteps n t
    | .fault f => .fault f
    | .refused r => .refused r

/-- No action in the list asserts `rst`. -/
def noReset (ps : List Pins) : Prop := ∀ p ∈ ps, p.rst = false

/-- What no command and no clock edge may change: the tables (10 R39), the host's list and the model's own counter. -/
def SameSurroundings (s t : State) : Prop :=
  t.sinTable = s.sinTable ∧ t.atanTable = s.atanTable ∧ t.host = s.host ∧ t.draws = s.draws

/-- The working registers of `ATAN2` are unchanged. -/
def SameRotation (s t : State) : Prop := t.x = s.x ∧ t.y = s.y ∧ t.ang = s.ang ∧ t.quad = s.quad

/-- The working registers of `ISQRT` are unchanged. -/
def SameRootPair (s t : State) : Prop := t.num = s.num ∧ t.root = s.root

/-- The registers a host sees hold what they held (70 R185 (a)). -/
def SameResults (s t : State) : Prop := t.r0 = s.r0 ∧ t.r1 = s.r1 ∧ t.ill = s.ill

/-- The command in the latches, as every accept step leaves them (30 R74). -/
def Latched (i : Instr) (t : State) : Prop := t.op = i.op ∧ t.a = i.a ∧ t.b = i.b

/-- What every completed command leaves alike: its fields in the latches, `ILL` as given, `BUSY = 0`, `DONE = 1`,
and the surroundings as they were (70 R183). -/
def Finished (i : Instr) (reserved : Bool) (s t : State) : Prop :=
  Latched i t ∧ t.ill = reserved ∧ t.busy = false ∧ t.done = true ∧ SameSurroundings s t

/-- Word `j` of a sine table as an integer, for claims stated in integers. -/
def sinWord (t : SinTable) (j : Nat) : Int := if h : j < 256 then (t[j].toNat : Int) else 0

/-- The sine column of the dispatch table in integer arithmetic: index and quadrant by division (40 R91, R93). -/
def sineByTable (t : SinTable) (theta : Nat) : Int :=
  let k := theta / 32 % 256
  let q := theta / 32 / 256 % 4
  if q = 0 then sinWord t k
  else if q = 1 then sinWord t (255 - k)
  else if q = 2 then -sinWord t k
  else -sinWord t (255 - k)

/-- The cosine column of the dispatch table in integer arithmetic (40 R91, R93). -/
def cosineByTable (t : SinTable) (theta : Nat) : Int :=
  let k := theta / 32 % 256
  let q := theta / 32 / 256 % 4
  if q = 0 then sinWord t (255 - k)
  else if q = 1 then -sinWord t k
  else if q = 2 then -sinWord t (255 - k)
  else sinWord t k

/-- The rotation on mathematical integers, for the claim that the 32-bit one does not wrap (41 R118). -/
structure IntRotation where
  x : Int
  y : Int
  ang : Int
  deriving DecidableEq, Repr

/-- The signed reading of a rotation. -/
def Rotation.signed (v : Rotation) : IntRotation := ⟨v.x.toInt, v.y.toInt, v.ang.toInt⟩

/-- `STEP` on mathematical integers, shifts as floors (41 R113, 00 R12). -/
def intAtanStep (t : AtanTable) (i : Fin 13) (v : IntRotation) : IntRotation :=
  let d : Int := (memReadAtan t i).toNat
  if v.y < 0 then ⟨v.x - v.y / 2 ^ i.val, v.y + v.x / 2 ^ i.val, v.ang + d⟩
  else ⟨v.x + v.y / 2 ^ i.val, v.y - v.x / 2 ^ i.val, v.ang - d⟩

/-- The first `n` iterations on mathematical integers. -/
def intAtanLoop (t : AtanTable) (v : IntRotation) : Nat → IntRotation
  | 0 => v
  | n + 1 => if h : n < 13 then intAtanStep t ⟨n, h⟩ (intAtanLoop t v n) else intAtanLoop t v n

/-- `CORRECT` on mathematical integers (41 R114). -/
def intCorrect (q : BitVec 2) (ang : Int) : Int :=
  match q.toNat with
  | 0 => -ang
  | 1 => 16384 + ang
  | 2 => 16384 - ang
  | _ => 32768 + ang

end Sys2Proof.Machine
end

