-- ==== Sys2Proof/Certificates/Slice0/Obligations.lean ====
section
/-!
DEFINITION. The statements for the provers.  Those whose docstring says "inference of the spec" rest on a passage the
spec marks as derived; those that rest on a convention of the model name its log entry.
-/

open Sys2Proof Sys2Proof.Machine

/-! Commands as words. -/

/-- Command words written out from the encoding of 30 R70 and R72, and the words the spec prints in 95 (V-S30, V-I1,
P1, P2, P3), decode to the commands they stand for. -/
def Obligations.CommandWordsDecode : Prop :=
  decode 0x012345678DEADBEEF#67 = .sincos 0x12345678#32 0xDEADBEEF#32 ∧
  decode 0x10000200000000000#67 = .sin 8192#32 0#32 ∧
  decode 0x20000600000000000#67 = .cos 24576#32 0#32 ∧
  decode 0x300005A82000059F4#67 = .atan2 23170#32 23028#32 ∧
  decode 0x4017D784000000000#67 = .isqrt 25000000#32 0#32 ∧
  decode 0x51111111122222222#67 = .illegal5 0x11111111#32 0x22222222#32 ∧
  decode 0x60000000000000000#67 = .illegal6 0#32 0#32 ∧
  decode 0x70000000000000000#67 = .illegal7 0#32 0#32

/-- Decoding the word of any command gives the command back: every command is well formed (30 R76), and no bit of an
operand is dropped. -/
def Obligations.DecodeOfEncode : Prop :=
  ∀ i : Instr, i.wellFormed = true ∧ decode (encode i) = i

/-- Decoding is total (30 R78), follows the operation-code map of 30 R72 on the fields of 30 R70, `op = CMD[66:64]`,
`a = CMD[63:32]`, `b = CMD[31:0]`, and the legal codes are those up to 4; that no two words are the same command is an
inference of the spec (30_encoding.md R78, derived there from R72). -/
def Obligations.DecodeFollowsCodeMap : Prop :=
  (∀ a b : Word,
    decode (0#3 ++ a ++ b) = .sincos a b ∧ decode (1#3 ++ a ++ b) = .sin a b ∧
    decode (2#3 ++ a ++ b) = .cos a b ∧ decode (3#3 ++ a ++ b) = .atan2 a b ∧
    decode (4#3 ++ a ++ b) = .isqrt a b ∧ decode (5#3 ++ a ++ b) = .illegal5 a b ∧
    decode (6#3 ++ a ++ b) = .illegal6 a b ∧ decode (7#3 ++ a ++ b) = .illegal7 a b) ∧
  (∀ w : Cmd, encode (decode w) = w ∧ (decode w).op = w.extractLsb' 64 3 ∧
    (decode w).a = w.extractLsb' 32 32 ∧ (decode w).b = w.extractLsb' 0 32) ∧
  (∀ w : Cmd, (decode w).isLegal ↔ (w.extractLsb' 64 3).toNat ≤ 4)

/-- 30 R79: what a written line makes the host do; an ignored `b` is 0, a negative number its two's complement
pattern, `R0` and `R1` what the host reads on `res0` and `res1`, `RESET` one edge with `rst`.  That a number which fits
no 32-bit word is taken modulo `2^32` is the model's choice (log 18), the form of the host's action too (log 5). -/
def Obligations.LinesStandForHostActions : Prop :=
  (∀ v : LineOperand, (Line.sincos v).transaction.action = .command 0#3 v.host (.word 0#32) ∧
    (Line.sin v).transaction.action = .command 1#3 v.host (.word 0#32) ∧
    (Line.cos v).transaction.action = .command 2#3 v.host (.word 0#32) ∧
    (Line.isqrt v).transaction.action = .command 4#3 v.host (.word 0#32)) ∧
  (∀ y x : LineOperand, (Line.atan2 y x).transaction.action = .command 3#3 y.host x.host) ∧
  (∀ (k : Fin 3) (a b : LineOperand), (Line.illegal k a b).transaction.action =
    .command (5#3 + BitVec.ofNat 3 k.val) a.host b.host) ∧
  (∀ (v : Int) (res0 res1 : Word), (LineOperand.number v).host.read res0 res1 = BitVec.ofInt 32 v ∧
    LineOperand.r0.host.read res0 res1 = res0 ∧ LineOperand.r1.host.read res0 res1 = res1) ∧
  Line.reset.transaction.action = .edge ⟨true, false, 0#3, 0#32, 0#32⟩

/-! One step, reset, and the rows of the step table. -/

/-- When the host's next action is a command, `step` is `exec` of the command its fields decode to, an operand copied
from a result port being what that port shows (30 R79): on an idle block the action leaves the host's list, on a busy
one it stays (log 5, 7).  A word that `presentWord` or `withFetchWord` places is run so (log 9). -/
def Obligations.StepRunsThePresentedCommand : Prop :=
  (∀ (s : State) (op : BitVec 3) (a b : HostOperand) (rest : List HostAction),
    s.host = .command op a b :: rest → s.busy = false →
      step s = exec (decode (op ++ a.read s.outputs.res0 s.outputs.res1 ++ b.read s.outputs.res0 s.outputs.res1))
        { s with host := rest }) ∧
  (∀ (s : State) (op : BitVec 3) (a b : HostOperand) (rest : List HostAction),
    s.host = .command op a b :: rest → s.busy = true →
      step s = exec (decode (op ++ a.read s.outputs.res0 s.outputs.res1 ++ b.read s.outputs.res0 s.outputs.res1)) s) ∧
  (∀ (s : State) (w : Cmd), step (s.presentWord w) = exec (decode w) { s with busy := false }) ∧
  (∀ (s : State) (nbits w : Nat) (i : Instr), decodeTableWord nbits w = some i →
    step (s.withFetchWord nbits w) = exec i { s with busy := false })

/-- When the host drives the ports for one edge, or has nothing to do, `step` is that clock edge (log 5). -/
def Obligations.StepDrivesClockEdges : Prop :=
  (∀ (s : State) (p : Pins) (rest : List HostAction), s.host = .edge p :: rest →
    step s = clockEdge p { s with host := rest }) ∧
  (∀ s : State, s.host = [] → step s = clockEdge ⟨false, false, 0#3, 0#32, 0#32⟩ s)

/-- The state after reset: R0, R1, ILL, BUSY, DONE are 0 (10 R38).  The tables being the default instances is the
model's choice (log 2). -/
def Obligations.ResetStateValues : Prop :=
  State.reset.r0 = 0#32 ∧ State.reset.r1 = 0#32 ∧ State.reset.ill = false ∧ State.reset.busy = false ∧
  State.reset.done = false ∧ State.reset.sinTable = sinTableDefault ∧ State.reset.atanTable = atanTableDefault

/-- 70 R180, R181: an edge with `rst = 1` resets every state, idle or busy and whatever the command inputs are: the
registers take the values of 10 R38, the command in flight is gone with no pulse, the tables are untouched.  About the
unspecified registers nothing is said. -/
def Obligations.ResetStepFromAnyState : Prop :=
  ∀ (s : State) (p : Pins), p.rst = true → ∃ t, clockEdge p s = .next t ∧
    t.r0 = 0#32 ∧ t.r1 = 0#32 ∧ t.ill = false ∧ t.busy = false ∧ t.done = false ∧
    t.sinTable = s.sinTable ∧ t.atanTable = s.atanTable ∧ t.host = s.host

/-- The idle row of the step table: `DONE <- 0`, nothing else changes (70 R183). -/
def Obligations.IdleEdgeOnlyClearsDone : Prop :=
  ∀ (s : State) (p : Pins), p.rst = false → s.busy = false → p.cmdValid = false →
    clockEdge p s = .next { s with done := false }

/-- The accept row of the step table for every operation code: the latches and flags are written, the results are
not, and only codes 3 and 4 touch working registers, each only those of its own engine (70 R183). -/
def Obligations.AcceptEdgeLatchesTheCommand : Prop :=
  ∀ (s : State) (p : Pins), p.rst = false → s.busy = false → p.cmdValid = true →
    ∃ t, clockEdge p s = .next t ∧ t.op = p.cmdOp ∧ t.a = p.cmdA ∧ t.b = p.cmdB ∧ t.busy = true ∧
      t.done = false ∧ SameResults s t ∧ SameSurroundings s t ∧
      (p.cmdOp ≠ 3#3 → SameRotation s t) ∧ (p.cmdOp ≠ 4#3 → SameRootPair s t) ∧
      (p.cmdOp ≠ 3#3 → p.cmdOp ≠ 4#3 → t.cnt = s.cnt)

/-- 40 R101: the table commands have no iterate step; the edge after the accept edge is the complete step, and
`LAT = 1`. -/
def Obligations.SincosMicroSteps : Prop :=
  latency 0#3 = 1 ∧ latency 1#3 = 1 ∧ latency 2#3 = 1 ∧
  ∀ (s : State) (op : BitVec 3) (a b : Word) (p : Pins), op.toNat ≤ 2 → s.busy = false → p.rst = false →
    ∃ t u, clockEdge (Pins.present op a b) s = .next t ∧ t.op = op ∧ t.a = a ∧ t.b = b ∧ t.busy = true ∧
      clockEdge p t = .next u ∧ u.busy = false ∧ u.done = true ∧
      u.arch = execArch s.sinTable s.atanTable s.arch (Instr.ofFields op a b)

/-- 41 R123: the accept, iterate and complete lines of `ATAN2`; after the `j`-th iterate step the registers hold the
values of the source's loop after `j` iterations; `LAT = 14`. -/
def Obligations.Atan2MicroSteps : Prop :=
  latency 3#3 = 14 ∧
  (∀ (s : State) (y x : Word), s.busy = false → ∃ t, clockEdge (Pins.present 3#3 y x) s = .next t ∧
    t.op = 3#3 ∧ t.a = y ∧ t.b = x ∧ t.busy = true ∧ t.quad = reduceQuadrant y x ∧
    t.x = reduceComponent x ∧ t.y = reduceComponent y ∧ t.ang = 0#32 ∧ t.cnt = 0#5 ∧ t.done = false ∧
    SameResults s t ∧ SameRootPair s t ∧ SameSurroundings s t) ∧
  (∀ (s : State) (p : Pins) (h : s.cnt.toNat < 13), p.rst = false → s.busy = true → s.op = 3#3 →
    ∃ t, clockEdge p s = .next t ∧ t.rotation = atanStep s.atanTable ⟨s.cnt.toNat, h⟩ s.rotation ∧
      t.cnt.toNat = s.cnt.toNat + 1 ∧ t.quad = s.quad ∧ Latched s.latched t ∧ t.busy = true ∧
      t.done = false ∧ SameResults s t ∧ SameRootPair s t ∧ SameSurroundings s t) ∧
  (∀ (s : State) (p : Pins), p.rst = false → s.busy = true → s.op = 3#3 → s.cnt.toNat = 13 →
    ∃ t, clockEdge p s = .next t ∧ t.r0 = correct s.quad s.ang ∧ t.r1 = s.r1 ∧ t.ill = false ∧ Latched s.latched t ∧
      t.busy = false ∧ t.done = true ∧ SameRotation s t ∧ SameRootPair s t ∧ t.cnt = s.cnt ∧
      SameSurroundings s t) ∧
  (∀ (s : State) (y x : Word) (ps : List Pins), s.busy = false → noReset ps → ps.length ≤ 13 →
    ∃ t, clockEdges (Pins.present 3#3 y x :: ps) s = .next t ∧
      t.rotation = atanLoop s.atanTable (reduceStart y x) ps.length ∧
      t.quad = reduceQuadrant y x ∧ t.cnt.toNat = ps.length ∧ t.busy = true ∧ SameResults s t)

/-- 42 R137: the accept, iterate and complete lines of `ISQRT`; after the `j`-th iterate step the registers hold the
values of the source's loop after `j` iterations; `LAT = 17`. -/
def Obligations.IsqrtMicroSteps : Prop :=
  latency 4#3 = 17 ∧
  (∀ (s : State) (n b : Word), s.busy = false → ∃ t, clockEdge (Pins.present 4#3 n b) s = .next t ∧
    t.op = 4#3 ∧ t.a = n ∧ t.b = b ∧ t.busy = true ∧ t.num = n ∧ t.root = 0#32 ∧ t.cnt = 0#5 ∧
    t.done = false ∧ SameResults s t ∧ SameRotation s t ∧ SameSurroundings s t) ∧
  (∀ (s : State) (p : Pins), p.rst = false → s.busy = true → s.op = 4#3 → s.cnt.toNat < 16 →
    ∃ t, clockEdge p s = .next t ∧ t.rootPair = sqrtStep (30 - 2 * s.cnt.toNat) s.rootPair ∧
      t.cnt.toNat = s.cnt.toNat + 1 ∧ Latched s.latched t ∧ t.busy = true ∧
      t.done = false ∧ SameResults s t ∧ SameRotation s t ∧ SameSurroundings s t) ∧
  (∀ (s : State) (p : Pins), p.rst = false → s.busy = true → s.op = 4#3 → s.cnt.toNat = 16 →
    ∃ t, clockEdge p s = .next t ∧ t.r0 = s.root ∧ t.r1 = s.r1 ∧ t.ill = false ∧ Latched s.latched t ∧
      t.busy = false ∧ t.done = true ∧ SameRotation s t ∧ SameRootPair s t ∧ t.cnt = s.cnt ∧
      SameSurroundings s t) ∧
  (∀ (s : State) (n b : Word) (ps : List Pins), s.busy = false → noReset ps → ps.length ≤ 16 →
    ∃ t, clockEdges (Pins.present 4#3 n b :: ps) s = .next t ∧
      t.rootPair = sqrtLoop (sqrtStart n) ps.length ∧ t.cnt.toNat = ps.length ∧ t.busy = true ∧
      SameResults s t)

/-- The two levels agree: a command at the transaction level leaves exactly the state that its accept edge and the
`LAT(op)` edges after it leave, whatever the command inputs are meanwhile (00 R15; 70 R184, R186).  That `exec` is the
transaction level is the model's choice (log 6). -/
def Obligations.CommandEqualsItsClockEdges : Prop :=
  ∀ (s : State) (op : BitVec 3) (a b : Word) (ps : List Pins),
    s.busy = false → noReset ps → ps.length = latency op →
      ∃ t, exec (Instr.ofFields op a b) s = .next t ∧ clockEdges (Pins.present op a b :: ps) s = .next t

/-! What each command does, and what it leaves alone. -/

/-- 40 R94: `SINCOS` on an idle block, for every operand: `R0` the sine, `R1` the cosine, `ILL`, `BUSY` cleared;
the corner cases of the rule and its worked example.  Everything not named is unchanged. -/
def Obligations.SincosResult : Prop :=
  (∀ (s : State) (a b : Word), s.busy = false → ∃ t, exec (.sincos a b) s = .next t ∧
    t.r0.toInt = sineByTable s.sinTable a.toNat ∧ t.r1.toInt = cosineByTable s.sinTable a.toNat ∧
    Finished (.sincos a b) false s t ∧ SameRotation s t ∧ SameRootPair s t ∧ t.cnt = s.cnt) ∧
  (∀ t : SinTable, t.Ok → sincosF t 0#32 = (0#32, 32767#32) ∧ sincosF t 8192#32 = (32767#32, 0#32) ∧
    sincosF t 31#32 = sincosF t 0#32 ∧ sincosF t 0xFFFFFFFF#32 = (0#32, 32767#32)) ∧
  sincosF sinTableDefault 4096#32 = (23170#32, 23028#32)

/-- 40 R95: `SIN` on an idle block: `R0` the sine, `R1` kept; the rule's worked example. -/
def Obligations.SinResult : Prop :=
  (∀ (s : State) (a b : Word), s.busy = false → ∃ t, exec (.sin a b) s = .next t ∧
    t.r0.toInt = sineByTable s.sinTable a.toNat ∧ t.r1 = s.r1 ∧
    Finished (.sin a b) false s t ∧ SameRotation s t ∧ SameRootPair s t ∧ t.cnt = s.cnt) ∧
  (sincosF sinTableDefault 12288#32).1 = 23028#32

/-- 40 R96: `COS` on an idle block: `R0` (not `R1`) the cosine, `R1` kept; the rule's worked example. -/
def Obligations.CosResult : Prop :=
  (∀ (s : State) (a b : Word), s.busy = false → ∃ t, exec (.cos a b) s = .next t ∧
    t.r0.toInt = cosineByTable s.sinTable a.toNat ∧ t.r1 = s.r1 ∧
    Finished (.cos a b) false s t ∧ SameRotation s t ∧ SameRootPair s t ∧ t.cnt = s.cnt) ∧
  (sincosF sinTableDefault 12288#32).2 = 0xFFFFA57E#32

/-- 41 R115: `ATAN2` on an idle block: `R0` is `ATAN2_F(y, x)`, the corrected accumulator after the steps `i = 0` to
12 from the reduced vector, `R1` kept; the working registers are the loop's, those of `ISQRT` unchanged; the rule's
worked example. -/
def Obligations.Atan2Result : Prop :=
  (∀ (s : State) (y x : Word), s.busy = false → ∃ t, exec (.atan2 y x) s = .next t ∧
    t.r0 = atan2F s.atanTable y x ∧ t.r1 = s.r1 ∧ Finished (.atan2 y x) false s t ∧
    t.rotation = atanLoop s.atanTable (reduceStart y x) 13 ∧ t.quad = reduceQuadrant y x ∧ t.cnt = 13#5 ∧
    SameRootPair s t) ∧
  (∀ (t : AtanTable) (y x : Word),
    atan2F t y x = correct (reduceQuadrant y x) (atanLoop t (reduceStart y x) 13).ang) ∧
  (∀ (t : AtanTable) (v : Rotation), atanLoop t v 0 = v ∧
    ∀ (n : Nat) (h : n < 13), atanLoop t v (n + 1) = atanStep t ⟨n, h⟩ (atanLoop t v n)) ∧
  reduceQuadrant 1000#32 1000#32 = 0#2 ∧
  (atanLoop atanTableDefault (reduceStart 1000#32 1000#32) 13).ang = BitVec.ofInt 32 (-4095) ∧
  atan2F atanTableDefault 1000#32 1000#32 = 4095#32

/-- 42 R133: `ISQRT` on an idle block: `R0` is `ISQRT_F(n)`, the root after the sixteen steps at `i = 30, 28, ..., 0`
from `NUM = n`, `ROOT = 0`, `R1` kept; the working registers are the loop's, those of `ATAN2` unchanged; the final
remainder; the rule's corner cases, with which tests succeed, and its worked example. -/
def Obligations.IsqrtResult : Prop :=
  (∀ (s : State) (n b : Word), s.busy = false → ∃ t, exec (.isqrt n b) s = .next t ∧
    t.r0 = isqrtF n ∧ t.r1 = s.r1 ∧ Finished (.isqrt n b) false s t ∧
    t.rootPair = sqrtLoop (sqrtStart n) 16 ∧ t.cnt = 16#5 ∧ SameRotation s t) ∧
  (∀ v : RootPair, sqrtLoop v 0 = v ∧
    ∀ j : Nat, sqrtLoop v (j + 1) = sqrtStep (30 - 2 * j) (sqrtLoop v j)) ∧
  (∀ n : Word, sqrtStart n = ⟨n, 0#32⟩ ∧ isqrtF n = (sqrtLoop (sqrtStart n) 16).result ∧
    (isqrtF n).toNat ≤ 65535) ∧
  (∀ n : Word, (sqrtLoop (sqrtStart n) 16).num.toNat + (isqrtF n).toNat * (isqrtF n).toNat = n.toNat) ∧
  isqrtF 0#32 = 0#32 ∧ (∀ j : Nat, j ≤ 16 → sqrtLoop (sqrtStart 0#32) j = ⟨0#32, 0#32⟩) ∧
  isqrtF 1#32 = 1#32 ∧ sqrtLoop (sqrtStart 1#32) 15 = ⟨1#32, 0#32⟩ ∧
  isqrtF 0xFFFFFFFF#32 = 65535#32 ∧
  (∀ j : Nat, j < 16 → (sqrtLoop (sqrtStart 0xFFFFFFFF#32) (j + 1)).num.toNat <
    (sqrtLoop (sqrtStart 0xFFFFFFFF#32) j).num.toNat) ∧
  isqrtF 10#32 = 3#32 ∧ sqrtLoop (sqrtStart 10#32) 14 = ⟨10#32, 0#32⟩ ∧
  sqrtLoop (sqrtStart 10#32) 15 = ⟨6#32, 4#32⟩ ∧ sqrtLoop (sqrtStart 10#32) 16 = ⟨1#32, 3#32⟩

/-- 30 R75, 60 R160: each reserved code on an idle block: `ILL <- 1`, `BUSY <- 0`, the pulse as for any command,
`R0` and `R1` and every working register kept; the next command runs, and a legal one clears `ILL` again; at the
micro-step level the complete step is the edge after the accept edge. -/
def Obligations.ReservedCodeResult : Prop :=
  (∀ (s : State) (a b : Word) (i : Instr), i = .illegal5 a b ∨ i = .illegal6 a b ∨ i = .illegal7 a b →
    s.busy = false → ∃ t, exec i s = .next t ∧ t.r0 = s.r0 ∧ t.r1 = s.r1 ∧
      Finished i true s t ∧ SameRotation s t ∧ SameRootPair s t ∧ t.cnt = s.cnt ∧
      ∀ j : Instr, ∃ u, exec j t = .next u ∧ (j.isLegal → u.ill = false)) ∧
  ∀ (s : State) (op : BitVec 3) (a b : Word) (p : Pins), 5 ≤ op.toNat → s.busy = false → p.rst = false →
    ∃ t u, clockEdge (Pins.present op a b) s = .next t ∧ t.op = op ∧ t.a = a ∧ t.b = b ∧ t.busy = true ∧
      clockEdge p t = .next u ∧ u.r0 = s.r0 ∧ u.r1 = s.r1 ∧ u.ill = true ∧ u.busy = false ∧ u.done = true

/-- Every command completes on an idle block, and its architectural effect is the spec's `EXEC` (70 R184). -/
def Obligations.EveryCommandRunsWhenReady : Prop :=
  ∀ (i : Instr) (s : State), s.busy = false → ∃ t, exec i s = .next t ∧
    t.arch = execArch s.sinTable s.atanTable s.arch i ∧ t.busy = false ∧ t.done = true ∧ SameSurroundings s t

/-- 30 R74: a field the operation ignores has no effect on what a host can read, and is latched all the same. -/
def Obligations.IgnoredFieldsHaveNoEffect : Prop :=
  ∀ (s : State), s.busy = false →
    (∀ a a' b b' : Word, anglePosition a = anglePosition a' →
      (∃ t u, exec (.sincos a b) s = .next t ∧ exec (.sincos a' b') s = .next u ∧ t.arch = u.arch) ∧
      (∃ t u, exec (.sin a b) s = .next t ∧ exec (.sin a' b') s = .next u ∧ t.arch = u.arch) ∧
      (∃ t u, exec (.cos a b) s = .next t ∧ exec (.cos a' b') s = .next u ∧ t.arch = u.arch)) ∧
    (∀ n b b' : Word, ∃ t u, exec (.isqrt n b) s = .next t ∧ exec (.isqrt n b') s = .next u ∧ t.arch = u.arch) ∧
    (∀ a a' b b' : Word,
      (∃ t u, exec (.illegal5 a b) s = .next t ∧ exec (.illegal5 a' b') s = .next u ∧ t.arch = u.arch) ∧
      (∃ t u, exec (.illegal6 a b) s = .next t ∧ exec (.illegal6 a' b') s = .next u ∧ t.arch = u.arch) ∧
      (∃ t u, exec (.illegal7 a b) s = .next t ∧ exec (.illegal7 a' b') s = .next u ∧ t.arch = u.arch)) ∧
    (∀ i : Instr, ∃ t, exec i s = .next t ∧ Latched i t)

/-- The result of a legal command depends on its own fields and the tables only, but for `R1`, which a command other
than `SINCOS` leaves as it was (20 R60 (c)). -/
def Obligations.ResultsDependOnOperandsOnly : Prop :=
  ∀ (i : Instr) (s s' : State), i.isLegal → s.busy = false → s'.busy = false →
    s.sinTable = s'.sinTable → s.atanTable = s'.atanTable →
    ∃ t t', exec i s = .next t ∧ exec i s' = .next t' ∧ t.r0 = t'.r0 ∧ t.ill = t'.ill ∧
      (i.op = 0#3 → t.r1 = t'.r1) ∧ (i.op ≠ 0#3 → t.r1 = s.r1 ∧ t'.r1 = s'.r1)

/-- A command presented while `BUSY = 1` is not accepted: the edge is the one an idle host would see, whatever the
command (70 R183, R185 (e); log 7). -/
def Obligations.BusyBlockTurnsCommandAway : Prop :=
  ∀ (i : Instr) (s : State) (p : Pins), s.busy = true → p.rst = false → exec i s = clockEdge p s

/-! The engines against the rules in integer arithmetic. -/

/-- 40 R91: the position, index, quadrant and complement index of an angle by division, remainder and difference. -/
def Obligations.AngleFieldsAreArithmetic : Prop :=
  ∀ theta : Word,
    (anglePosition theta).toNat = theta.toNat / 32 % 1024 ∧
    (angleIndex theta).toNat = (anglePosition theta).toNat % 256 ∧
    (angleQuadrant theta).toNat = (anglePosition theta).toNat / 256 ∧
    (complementIndex (angleIndex theta)).toNat = 255 - (angleIndex theta).toNat

/-- 40 R93: the four rows of the dispatch table, for every table and every angle; no negation overflows, and with an
allowed table bits 31:15 of a negative result are all ones. -/
def Obligations.SincosDispatchTable : Prop :=
  ∀ (t : SinTable) (theta : Word),
    (sincosF t theta).1.toInt = sineByTable t theta.toNat ∧
    (sincosF t theta).2.toInt = cosineByTable t theta.toNat ∧
    (t.Ok →
      ((sincosF t theta).1.toInt < 0 → (sincosF t theta).1.extractLsb' 15 17 = BitVec.allOnes 17) ∧
      ((sincosF t theta).2.toInt < 0 → (sincosF t theta).2.extractLsb' 15 17 = BitVec.allOnes 17))

/-- Inference of the spec (40_sincos.md R92): the position is the same under an arithmetic and a logical shift. -/
def Obligations.SincosShiftKindIrrelevant : Prop :=
  ∀ theta : Word,
    (asr32 theta 5).toNat % 1024 = (anglePosition theta).toNat ∧
    (lsr32 theta 5).toNat % 1024 = (anglePosition theta).toNat

/-- Inference of the spec (40_sincos.md R98 (a) to (e)): exact laws for every table and every angle. -/
def Obligations.SincosExactLaws : Prop :=
  ∀ (t : SinTable) (theta theta' m : Word),
    (anglePosition theta = anglePosition theta' → sincosF t theta = sincosF t theta') ∧
    sincosF t (add32 theta (32768#32 * m)) = sincosF t theta ∧
    (sincosF t theta).2 = (sincosF t (add32 theta 8192#32)).1 ∧
    (sincosF t (add32 theta 16384#32)).1 = neg32 (sincosF t theta).1 ∧
    (sincosF t (add32 theta 16384#32)).2 = neg32 (sincosF t theta).2 ∧
    (anglePosition theta' = ~~~anglePosition theta →
      (sincosF t theta').1 = neg32 (sincosF t theta).1 ∧ (sincosF t theta').2 = (sincosF t theta).2)

/-- Inference of the spec (40_sincos.md R97): results within 32767 in magnitude, and their signs by quadrant, for
every table the spec allows. -/
def Obligations.SincosRangeAndSign : Prop :=
  ∀ (t : SinTable) (theta : Word), t.Ok →
    -32767 ≤ (sincosF t theta).1.toInt ∧ (sincosF t theta).1.toInt ≤ 32767 ∧
    -32767 ≤ (sincosF t theta).2.toInt ∧ (sincosF t theta).2.toInt ≤ 32767 ∧
    ((angleQuadrant theta).toNat ≤ 1 → 0 ≤ (sincosF t theta).1.toInt) ∧
    (2 ≤ (angleQuadrant theta).toNat → (sincosF t theta).1.toInt ≤ 0) ∧
    ((angleQuadrant theta).toNat = 0 ∨ (angleQuadrant theta).toNat = 3 → 0 ≤ (sincosF t theta).2.toInt) ∧
    ((angleQuadrant theta).toNat = 1 ∨ (angleQuadrant theta).toNat = 2 → (sincosF t theta).2.toInt ≤ 0)

/-- 41 R111: the four cases of `REDUCE` on the signed readings; a component is negated exactly when negative. -/
def Obligations.Atan2ReduceCases : Prop :=
  ∀ y x : Word,
    (0 ≤ x.toInt → 0 ≤ y.toInt →
      reduceQuadrant y x = 0#2 ∧ (reduceStart y x).x = x ∧ (reduceStart y x).y = y) ∧
    (x.toInt < 0 → 0 ≤ y.toInt →
      reduceQuadrant y x = 1#2 ∧ (reduceStart y x).x = -x ∧ (reduceStart y x).y = y) ∧
    (x.toInt < 0 → y.toInt < 0 →
      reduceQuadrant y x = 2#2 ∧ (reduceStart y x).x = -x ∧ (reduceStart y x).y = -y) ∧
    (0 ≤ x.toInt → y.toInt < 0 →
      reduceQuadrant y x = 3#2 ∧ (reduceStart y x).x = x ∧ (reduceStart y x).y = -y)

/-- 41 R113: the iterations are `i = 0, 1, ..., 12` in that order; one iteration in integer arithmetic modulo `2^32`:
floors for the shifts, the test on the sign of `Y` alone with zero counted as not negative, both components from the
old ones. -/
def Obligations.Atan2RotationStep : Prop :=
  (∀ (t : AtanTable) (v : Rotation) (n : Nat) (h : n < 13),
    atanLoop t v (n + 1) = atanStep t ⟨n, h⟩ (atanLoop t v n)) ∧
  ∀ (t : AtanTable) (i : Fin 13) (v : Rotation),
    (v.y.toInt < 0 →
      atanStep t i v =
        ⟨BitVec.ofInt 32 (v.x.toInt - v.y.toInt / 2 ^ i.val), BitVec.ofInt 32 (v.y.toInt + v.x.toInt / 2 ^ i.val),
          BitVec.ofInt 32 (v.ang.toInt + t[i.val].toNat)⟩) ∧
    (0 ≤ v.y.toInt →
      atanStep t i v =
        ⟨BitVec.ofInt 32 (v.x.toInt + v.y.toInt / 2 ^ i.val), BitVec.ofInt 32 (v.y.toInt - v.x.toInt / 2 ^ i.val),
          BitVec.ofInt 32 (v.ang.toInt - t[i.val].toNat)⟩)

/-- 41 R114: the four lines of `CORRECT` modulo `2^32`; the result is not masked. -/
def Obligations.Atan2QuadrantCorrection : Prop :=
  ∀ a : Word,
    correct 0#2 a = BitVec.ofInt 32 (-a.toInt) ∧ correct 1#2 a = BitVec.ofInt 32 (16384 + a.toInt) ∧
    correct 2#2 a = BitVec.ofInt 32 (16384 - a.toInt) ∧ correct 3#2 a = BitVec.ofInt 32 (32768 + a.toInt)

/-- `ATAN2` at the origin gives the sum of the thirteen table words, for every table: the spec's decision D16
(90_conflicts.md C1), where the source states 0 (log 11). -/
def Obligations.Atan2AtTheOrigin : Prop :=
  (∀ t : AtanTable, atan2F t 0#32 0#32 = BitVec.ofNat 32 (atanSigma t)) ∧ atanSigma atanTableDefault = 9091

/-- Inference of the spec (41_atan2.md R117): the results for the four sign patterns of one pair of magnitudes are
tied exactly, whatever the table. -/
def Obligations.Atan2SignPatterns : Prop :=
  ∀ (t : AtanTable) (y x : Word), y ≠ 0x80000000#32 → x ≠ 0x80000000#32 →
    (x.toInt < 0 → 0 ≤ y.toInt → atan2F t y x = 16384#32 - atan2F t y (-x)) ∧
    (x.toInt < 0 → y.toInt < 0 → atan2F t y x = 16384#32 + atan2F t (-y) (-x)) ∧
    (0 ≤ x.toInt → y.toInt < 0 → atan2F t y x = 32768#32 - atan2F t (-y) x)

/-- Inference of the spec (41_atan2.md R120): the accumulator never exceeds the table's sum in magnitude, and after
the thirteenth iteration of operands other than `0x80000000` it is at most the sum less twice the first word. -/
def Obligations.Atan2AccumulatorBound : Prop :=
  ∀ (t : AtanTable) (y x : Word),
    (∀ n, -(atanSigma t : Int) ≤ (atanLoop t (reduceStart y x) n).ang.toInt ∧
      (atanLoop t (reduceStart y x) n).ang.toInt ≤ atanSigma t) ∧
    (y ≠ 0x80000000#32 →
      (atanLoop t (reduceStart y x) 13).ang.toInt ≤ (atanSigma t : Int) - 2 * t[0].toNat)

/-- Inference of the spec (41_atan2.md R118, "checked ... not proved"): for operands of magnitude up to `2^29` no add,
subtract or negate of the engine wraps: the reduction gives the magnitudes, every iteration is that of ordinary
integers, and the result is the line of `CORRECT` in ordinary integers. -/
def Obligations.Atan2SafeDomainDoesNotWrap : Prop :=
  ∀ (t : AtanTable) (y x : Word), |y.toInt| ≤ 2 ^ 29 → |x.toInt| ≤ 2 ^ 29 →
    (∀ n, (atanLoop t (reduceStart y x) n).signed = intAtanLoop t ⟨|x.toInt|, |y.toInt|, 0⟩ n) ∧
    (atan2F t y x).toInt =
      intCorrect (reduceQuadrant y x) (intAtanLoop t ⟨|x.toInt|, |y.toInt|, 0⟩ 13).ang

/-- 42 R132: the iterations are at `i = 30, 28, ..., 0` in that order; one iteration in natural arithmetic, for each bit
position: `temp` from the root before the halving (modulo `2^32`), an unsigned test that includes equality, and no
borrow. -/
def Obligations.IsqrtRecurrenceStep : Prop :=
  (∀ (v : RootPair) (j : Nat), j < 16 → sqrtLoop v (j + 1) = sqrtStep (30 - 2 * j) (sqrtLoop v j)) ∧
  ∀ (i : Nat) (v : RootPair), i ≤ 30 →
    ((v.root.toNat + 2 ^ i) % 2 ^ 32 ≤ v.num.toNat →
      (sqrtStep i v).num.toNat = v.num.toNat - (v.root.toNat + 2 ^ i) % 2 ^ 32 ∧
      (sqrtStep i v).root.toNat = (v.root.toNat / 2 + 2 ^ i) % 2 ^ 32) ∧
    (v.num.toNat < (v.root.toNat + 2 ^ i) % 2 ^ 32 →
      (sqrtStep i v).num = v.num ∧ (sqrtStep i v).root.toNat = v.root.toNat / 2)

/-- Inference of the spec (42_isqrt.md R134, R135): the loop invariant; after the iteration at bit position `i` the
root register holds `s * 2^i` and the remainder `n - s^2 * 2^i`, with `s` the root of `n / 2^i`; before the iteration
at `i` the root register is a multiple of `2^(i+2)` and `temp` does not wrap. -/
def Obligations.IsqrtLoopInvariant : Prop :=
  ∀ (n : Word) (j : Nat), j < 16 →
    let i := 30 - 2 * j
    let before := sqrtLoop (sqrtStart n) j
    let after := sqrtLoop (sqrtStart n) (j + 1)
    let r := Nat.sqrt (n.toNat / 2 ^ i)
    2 ^ (i + 2) ∣ before.root.toNat ∧ before.root.toNat + 2 ^ i < 2 ^ 32 ∧
    after.root.toNat = r * 2 ^ i ∧ after.num.toNat + r ^ 2 * 2 ^ i = n.toNat

/-- Inference of the spec (42_isqrt.md R135, checked there but not proved): for every operand `ISQRT` gives the floor
of the square root, the operation of 42 R130, the largest integer whose square is at most the operand; so it is
non-decreasing (R136 (c), derived there from (b)); and the source's three values (R136 (a)). -/
def Obligations.IsqrtIsFloorSquareRoot : Prop :=
  isqrtF 0#32 = 0#32 ∧ isqrtF 1#32 = 1#32 ∧ isqrtF 4#32 = 2#32 ∧
  (∀ n : Word, (isqrtF n).toNat * (isqrtF n).toNat ≤ n.toNat ∧
    ∀ r : Nat, r * r ≤ n.toNat → r ≤ (isqrtF n).toNat) ∧
  (∀ m n : Word, m.toNat ≤ n.toNat → (isqrtF m).toNat ≤ (isqrtF n).toNat)

/-! Flags, ports and views. -/

/-- 10 R25: what sets and clears `BUSY` and `ILL`, over every edge: `BUSY` is set by accept and cleared by complete
and reset, `ILL` is cleared by reset, written by every complete step as the command was reserved or legal, and
otherwise kept; the ports they drive; and no command reads `ILL`. -/
def Obligations.FlagsChangeOnlyAsListed : Prop :=
  (∀ s : State, s.outputs.busy = s.busy ∧ s.outputs.cmdReady = !s.busy ∧ s.outputs.rspErr = s.ill) ∧
  (∀ (i : Instr) (s : State) (v : Bool), s.busy = false →
    ∃ t, exec i s = .next t ∧ exec i { s with ill := v } = .next t) ∧
  ∀ (p : Pins) (s t : State), clockEdge p s = .next t →
    (p.rst = true → t.busy = false ∧ t.ill = false) ∧
    (p.rst = false → s.busy = false → t.busy = p.cmdValid ∧ t.ill = s.ill) ∧
    (p.rst = false → s.busy = true → s.cnt.toNat < iterations s.op → t.busy = true ∧ t.ill = s.ill) ∧
    (p.rst = false → s.busy = true → ¬ s.cnt.toNat < iterations s.op →
      t.busy = false ∧ (t.ill = true ↔ 5 ≤ s.op.toNat))

/-- 10 R22: what writes `R0` and `R1`, over every edge: reset, and the complete step of a legal command with its own
result; `R1` by `SINCOS` alone; and the ports that show them. -/
def Obligations.ResultsWrittenOnlyAsListed : Prop :=
  (∀ s : State, s.outputs.res0 = s.r0 ∧ s.outputs.res1 = s.r1) ∧
  ∀ (p : Pins) (s t : State), clockEdge p s = .next t →
    (p.rst = true → t.r0 = 0#32 ∧ t.r1 = 0#32) ∧
    (p.rst = false → (s.busy = false ∨ s.cnt.toNat < iterations s.op ∨ 5 ≤ s.op.toNat) →
      t.r0 = s.r0 ∧ t.r1 = s.r1) ∧
    (p.rst = false → s.busy = true → ¬ s.cnt.toNat < iterations s.op →
      (s.op = 0#3 → t.r0.toInt = sineByTable s.sinTable s.a.toNat ∧
        t.r1.toInt = cosineByTable s.sinTable s.a.toNat) ∧
      (s.op = 1#3 → t.r0.toInt = sineByTable s.sinTable s.a.toNat) ∧
      (s.op = 2#3 → t.r0.toInt = cosineByTable s.sinTable s.a.toNat) ∧
      (s.op = 3#3 → t.r0 = correct s.quad s.ang) ∧ (s.op = 4#3 → t.r0 = s.root) ∧
      (s.op ≠ 0#3 → t.r1 = s.r1))

/-- 10 R29: every output is a function of the registers alone, and `DONE` is set by the complete step and cleared by
every other edge. -/
def Obligations.OutputsAreRegisters : Prop :=
  (∀ s : State, s.outputs = ⟨!s.busy, s.busy, s.done, s.ill, s.r0, s.r1⟩) ∧
  (∀ (p : Pins) (s t : State), clockEdge p s = .next t →
    (t.done = true ↔ p.rst = false ∧ s.busy = true ∧ ¬ s.cnt.toNat < iterations s.op))

/-- While `BUSY = 1` the result ports show the previous command's values, never a partial result (70 R185 (a)). -/
def Obligations.PortsKeepOldResultsWhileBusy : Prop :=
  ∀ (p : Pins) (s t : State), clockEdge p s = .next t → p.rst = false → t.busy = true →
    t.outputs.res0 = s.outputs.res0 ∧ t.outputs.res1 = s.outputs.res1 ∧ t.outputs.rspErr = s.outputs.rspErr

/-- 10 R26: the bits of the status word, which is 0 after a reset step. -/
def Obligations.StatusWordBits : Prop :=
  (∀ s : State, s.status.getLsbD 0 = s.busy ∧ s.status.getLsbD 1 = s.ill ∧
    ∀ i, 2 ≤ i → s.status.getLsbD i = false) ∧
  ∀ (p : Pins) (s t : State), p.rst = true → clockEdge p s = .next t → t.status = 0#32

/-- 30 R71: the fields of the response word. -/
def Obligations.ResponseWordFields : Prop :=
  ∀ s : State, s.rsp.getLsbD 64 = s.outputs.rspErr ∧ s.rsp.extractLsb' 32 32 = s.outputs.res0 ∧
    s.rsp.extractLsb' 0 32 = s.outputs.res1

/-! The machine as a whole. -/

/-- No step writes a table: they are configuration (10 R39). -/
def Obligations.TablesNeverWritten : Prop :=
  ∀ s t : State, step s = .next t → t.sinTable = s.sinTable ∧ t.atanTable = s.atanTable

/-- The state after reset meets the invariant (the default tables are the model's choice, log 2). -/
def Obligations.InvariantAtReset : Prop := State.reset.Inv

/-- The invariant of the block: the working registers of a command in flight are those of the source's loop on the
latched operands, `DONE` is 0 while `BUSY` is 1, and the tables meet their constraints.  Every step keeps it. -/
def Obligations.StepKeepsInvariant : Prop :=
  ∀ s t : State, s.Inv → step s = .next t → t.Inv

/-- The block never stops: from every state that meets the invariant a step answers a next state (70 R183: the
conditions are exhaustive; R188: it never hangs). -/
def Obligations.InvariantStepAnswersNext : Prop :=
  ∀ s : State, s.Inv → ∃ t, step s = .next t

/-- An edge stops only where the step table has no row: no reset, a loop command in flight, and the step counter
above the last value of its loop (log 8). -/
def Obligations.FaultExactlyBeyondTheLoop : Prop :=
  ∀ (p : Pins) (s : State),
    (clockEdge p s = .fault .stepCounterBeyondLoop ↔
      p.rst = false ∧ s.busy = true ∧ iterations s.op ≠ 0 ∧ iterations s.op < s.cnt.toNat) ∧
    (¬ (p.rst = false ∧ s.busy = true ∧ iterations s.op ≠ 0 ∧ iterations s.op < s.cnt.toNat) →
      ∃ t, clockEdge p s = .next t)

/-- Every command in flight completes, with the result its latched operands call for, after exactly the edges its
loop has left, at most 17, unless the host resets (70 R188). -/
def Obligations.EveryCommandInFlightCompletes : Prop :=
  ∀ (s : State) (ps : List Pins), s.Inv → s.busy = true → noReset ps →
    ps.length = (if iterations s.op = 0 then 1 else latency s.op - s.cnt.toNat) →
    ps.length ≤ 17 ∧ ∃ t, clockEdges ps s = .next t ∧ t.busy = false ∧ t.done = true ∧
      t.arch = execArch s.sinTable s.atanTable s.arch s.latched

/-- A run of the block seen by a host that waits for each completion is a fold of `EXEC` and `RESET` over the host's
sequence of commands and resets (70 R184), a copied operand being the result of the command before (30 R79), and it is then over
(70 R188).  The list of the host's actions is the model's (log 5). -/
def Obligations.HostRunFoldsTransactions : Prop :=
  ∀ (ts : List Transaction) (s : State), s.busy = false → s.host = ts.map Transaction.action →
    ∃ t, runSteps ts.length s = .next t ∧ t.runOver ∧
      t.arch = ts.foldl (fun c x => x.onArch s.sinTable s.atanTable c) s.arch

/-! Outside the block. -/

/-- The scalar helpers (43 R147 to R149), reference functions outside the block: `sign` of zero is 1 and never 0,
`min` and `max`, and `clamp` for `lo <= hi`. -/
def Obligations.ScalarHelpersSelect : Prop :=
  (∀ a : Word, (a.toInt < 0 → helperSign a = -1) ∧ (0 ≤ a.toInt → helperSign a = 1)) ∧
  (∀ a b : Int, helperMin a b = min a b ∧ helperMax a b = max a b) ∧
  (∀ a hi lo : Int, lo ≤ hi → helperClamp a hi lo = max lo (min a hi))

/-! A table address. -/

/-- Inference of the spec (20_memory.md R54): the complement index needs no borrow and no reduction modulo 256, and is
the bitwise complement of the index. -/
def Obligations.ComplementIndexIsBitwiseNot : Prop :=
  ∀ k : BitVec 8, complementIndex k = ~~~k ∧ (complementIndex k).toNat + k.toNat = 255
end

