-- ==== Sys2Proof/Laws/State.lean ====
section
/-!
SUPPORT. One lemma per field per update of the state, so that no later proof unfolds a record update.  The proofs
are `(rfl)` in brackets: simp then rewrites with the lemma instead of leaving the kernel to compare the two states,
which would make it run the iterative engines on symbols.
-/

namespace Sys2Proof.Machine

/-- Two states are equal when all their fields are. -/
theorem State.eq_of_fields {s t : State}
    (h_r0 : s.r0 = t.r0)
    (h_r1 : s.r1 = t.r1)
    (h_ill : s.ill = t.ill)
    (h_busy : s.busy = t.busy)
    (h_done : s.done = t.done)
    (h_op : s.op = t.op)
    (h_a : s.a = t.a)
    (h_b : s.b = t.b)
    (h_x : s.x = t.x)
    (h_y : s.y = t.y)
    (h_ang : s.ang = t.ang)
    (h_quad : s.quad = t.quad)
    (h_num : s.num = t.num)
    (h_root : s.root = t.root)
    (h_cnt : s.cnt = t.cnt)
    (h_sinTable : s.sinTable = t.sinTable)
    (h_atanTable : s.atanTable = t.atanTable)
    (h_host : s.host = t.host)
    (h_draws : s.draws = t.draws)
    : s = t := by
  cases s; cases t; simp_all

/-! `State.flagsAccept`. -/

@[simp] theorem State.flagsAccept_r0 (s : State) : s.flagsAccept.r0 = s.r0 := (rfl)
@[simp] theorem State.flagsAccept_r1 (s : State) : s.flagsAccept.r1 = s.r1 := (rfl)
@[simp] theorem State.flagsAccept_ill (s : State) : s.flagsAccept.ill = s.ill := (rfl)
@[simp] theorem State.flagsAccept_busy (s : State) : s.flagsAccept.busy = true := (rfl)
@[simp] theorem State.flagsAccept_done (s : State) : s.flagsAccept.done = false := (rfl)
@[simp] theorem State.flagsAccept_op (s : State) : s.flagsAccept.op = s.op := (rfl)
@[simp] theorem State.flagsAccept_a (s : State) : s.flagsAccept.a = s.a := (rfl)
@[simp] theorem State.flagsAccept_b (s : State) : s.flagsAccept.b = s.b := (rfl)
@[simp] theorem State.flagsAccept_x (s : State) : s.flagsAccept.x = s.x := (rfl)
@[simp] theorem State.flagsAccept_y (s : State) : s.flagsAccept.y = s.y := (rfl)
@[simp] theorem State.flagsAccept_ang (s : State) : s.flagsAccept.ang = s.ang := (rfl)
@[simp] theorem State.flagsAccept_quad (s : State) : s.flagsAccept.quad = s.quad := (rfl)
@[simp] theorem State.flagsAccept_num (s : State) : s.flagsAccept.num = s.num := (rfl)
@[simp] theorem State.flagsAccept_root (s : State) : s.flagsAccept.root = s.root := (rfl)
@[simp] theorem State.flagsAccept_cnt (s : State) : s.flagsAccept.cnt = s.cnt := (rfl)
@[simp] theorem State.flagsAccept_sinTable (s : State) : s.flagsAccept.sinTable = s.sinTable := (rfl)
@[simp] theorem State.flagsAccept_atanTable (s : State) : s.flagsAccept.atanTable = s.atanTable := (rfl)
@[simp] theorem State.flagsAccept_host (s : State) : s.flagsAccept.host = s.host := (rfl)
@[simp] theorem State.flagsAccept_draws (s : State) : s.flagsAccept.draws = s.draws := (rfl)

/-! `State.flagsComplete`. -/

@[simp] theorem State.flagsComplete_r0 (s : State) (e : Bool) : (s.flagsComplete e).r0 = s.r0 := (rfl)
@[simp] theorem State.flagsComplete_r1 (s : State) (e : Bool) : (s.flagsComplete e).r1 = s.r1 := (rfl)
@[simp] theorem State.flagsComplete_ill (s : State) (e : Bool) : (s.flagsComplete e).ill = e := (rfl)
@[simp] theorem State.flagsComplete_busy (s : State) (e : Bool) : (s.flagsComplete e).busy = false := (rfl)
@[simp] theorem State.flagsComplete_done (s : State) (e : Bool) : (s.flagsComplete e).done = true := (rfl)
@[simp] theorem State.flagsComplete_op (s : State) (e : Bool) : (s.flagsComplete e).op = s.op := (rfl)
@[simp] theorem State.flagsComplete_a (s : State) (e : Bool) : (s.flagsComplete e).a = s.a := (rfl)
@[simp] theorem State.flagsComplete_b (s : State) (e : Bool) : (s.flagsComplete e).b = s.b := (rfl)
@[simp] theorem State.flagsComplete_x (s : State) (e : Bool) : (s.flagsComplete e).x = s.x := (rfl)
@[simp] theorem State.flagsComplete_y (s : State) (e : Bool) : (s.flagsComplete e).y = s.y := (rfl)
@[simp] theorem State.flagsComplete_ang (s : State) (e : Bool) : (s.flagsComplete e).ang = s.ang := (rfl)
@[simp] theorem State.flagsComplete_quad (s : State) (e : Bool) : (s.flagsComplete e).quad = s.quad := (rfl)
@[simp] theorem State.flagsComplete_num (s : State) (e : Bool) : (s.flagsComplete e).num = s.num := (rfl)
@[simp] theorem State.flagsComplete_root (s : State) (e : Bool) : (s.flagsComplete e).root = s.root := (rfl)
@[simp] theorem State.flagsComplete_cnt (s : State) (e : Bool) : (s.flagsComplete e).cnt = s.cnt := (rfl)
@[simp] theorem State.flagsComplete_sinTable (s : State) (e : Bool) : (s.flagsComplete e).sinTable = s.sinTable := (rfl)
@[simp] theorem State.flagsComplete_atanTable (s : State) (e : Bool) : (s.flagsComplete e).atanTable = s.atanTable := (rfl)
@[simp] theorem State.flagsComplete_host (s : State) (e : Bool) : (s.flagsComplete e).host = s.host := (rfl)
@[simp] theorem State.flagsComplete_draws (s : State) (e : Bool) : (s.flagsComplete e).draws = s.draws := (rfl)

/-! `State.clearDone`. -/

@[simp] theorem State.clearDone_r0 (s : State) : s.clearDone.r0 = s.r0 := (rfl)
@[simp] theorem State.clearDone_r1 (s : State) : s.clearDone.r1 = s.r1 := (rfl)
@[simp] theorem State.clearDone_ill (s : State) : s.clearDone.ill = s.ill := (rfl)
@[simp] theorem State.clearDone_busy (s : State) : s.clearDone.busy = s.busy := (rfl)
@[simp] theorem State.clearDone_done (s : State) : s.clearDone.done = false := (rfl)
@[simp] theorem State.clearDone_op (s : State) : s.clearDone.op = s.op := (rfl)
@[simp] theorem State.clearDone_a (s : State) : s.clearDone.a = s.a := (rfl)
@[simp] theorem State.clearDone_b (s : State) : s.clearDone.b = s.b := (rfl)
@[simp] theorem State.clearDone_x (s : State) : s.clearDone.x = s.x := (rfl)
@[simp] theorem State.clearDone_y (s : State) : s.clearDone.y = s.y := (rfl)
@[simp] theorem State.clearDone_ang (s : State) : s.clearDone.ang = s.ang := (rfl)
@[simp] theorem State.clearDone_quad (s : State) : s.clearDone.quad = s.quad := (rfl)
@[simp] theorem State.clearDone_num (s : State) : s.clearDone.num = s.num := (rfl)
@[simp] theorem State.clearDone_root (s : State) : s.clearDone.root = s.root := (rfl)
@[simp] theorem State.clearDone_cnt (s : State) : s.clearDone.cnt = s.cnt := (rfl)
@[simp] theorem State.clearDone_sinTable (s : State) : s.clearDone.sinTable = s.sinTable := (rfl)
@[simp] theorem State.clearDone_atanTable (s : State) : s.clearDone.atanTable = s.atanTable := (rfl)
@[simp] theorem State.clearDone_host (s : State) : s.clearDone.host = s.host := (rfl)
@[simp] theorem State.clearDone_draws (s : State) : s.clearDone.draws = s.draws := (rfl)

/-! `State.latch`. -/

@[simp] theorem State.latch_r0 (s : State) (o : BitVec 3) (v w : Word) : (s.latch o v w).r0 = s.r0 := (rfl)
@[simp] theorem State.latch_r1 (s : State) (o : BitVec 3) (v w : Word) : (s.latch o v w).r1 = s.r1 := (rfl)
@[simp] theorem State.latch_ill (s : State) (o : BitVec 3) (v w : Word) : (s.latch o v w).ill = s.ill := (rfl)
@[simp] theorem State.latch_busy (s : State) (o : BitVec 3) (v w : Word) : (s.latch o v w).busy = true := (rfl)
@[simp] theorem State.latch_done (s : State) (o : BitVec 3) (v w : Word) : (s.latch o v w).done = false := (rfl)
@[simp] theorem State.latch_op (s : State) (o : BitVec 3) (v w : Word) : (s.latch o v w).op = o := (rfl)
@[simp] theorem State.latch_a (s : State) (o : BitVec 3) (v w : Word) : (s.latch o v w).a = v := (rfl)
@[simp] theorem State.latch_b (s : State) (o : BitVec 3) (v w : Word) : (s.latch o v w).b = w := (rfl)
@[simp] theorem State.latch_x (s : State) (o : BitVec 3) (v w : Word) : (s.latch o v w).x = s.x := (rfl)
@[simp] theorem State.latch_y (s : State) (o : BitVec 3) (v w : Word) : (s.latch o v w).y = s.y := (rfl)
@[simp] theorem State.latch_ang (s : State) (o : BitVec 3) (v w : Word) : (s.latch o v w).ang = s.ang := (rfl)
@[simp] theorem State.latch_quad (s : State) (o : BitVec 3) (v w : Word) : (s.latch o v w).quad = s.quad := (rfl)
@[simp] theorem State.latch_num (s : State) (o : BitVec 3) (v w : Word) : (s.latch o v w).num = s.num := (rfl)
@[simp] theorem State.latch_root (s : State) (o : BitVec 3) (v w : Word) : (s.latch o v w).root = s.root := (rfl)
@[simp] theorem State.latch_cnt (s : State) (o : BitVec 3) (v w : Word) : (s.latch o v w).cnt = s.cnt := (rfl)
@[simp] theorem State.latch_sinTable (s : State) (o : BitVec 3) (v w : Word) : (s.latch o v w).sinTable = s.sinTable := (rfl)
@[simp] theorem State.latch_atanTable (s : State) (o : BitVec 3) (v w : Word) : (s.latch o v w).atanTable = s.atanTable := (rfl)
@[simp] theorem State.latch_host (s : State) (o : BitVec 3) (v w : Word) : (s.latch o v w).host = s.host := (rfl)
@[simp] theorem State.latch_draws (s : State) (o : BitVec 3) (v w : Word) : (s.latch o v w).draws = s.draws := (rfl)

/-! `State.deliver`. -/

@[simp] theorem State.deliver_r0 (s : State) (v : Word) : (s.deliver v).r0 = v := (rfl)
@[simp] theorem State.deliver_r1 (s : State) (v : Word) : (s.deliver v).r1 = s.r1 := (rfl)
@[simp] theorem State.deliver_ill (s : State) (v : Word) : (s.deliver v).ill = false := (rfl)
@[simp] theorem State.deliver_busy (s : State) (v : Word) : (s.deliver v).busy = false := (rfl)
@[simp] theorem State.deliver_done (s : State) (v : Word) : (s.deliver v).done = true := (rfl)
@[simp] theorem State.deliver_op (s : State) (v : Word) : (s.deliver v).op = s.op := (rfl)
@[simp] theorem State.deliver_a (s : State) (v : Word) : (s.deliver v).a = s.a := (rfl)
@[simp] theorem State.deliver_b (s : State) (v : Word) : (s.deliver v).b = s.b := (rfl)
@[simp] theorem State.deliver_x (s : State) (v : Word) : (s.deliver v).x = s.x := (rfl)
@[simp] theorem State.deliver_y (s : State) (v : Word) : (s.deliver v).y = s.y := (rfl)
@[simp] theorem State.deliver_ang (s : State) (v : Word) : (s.deliver v).ang = s.ang := (rfl)
@[simp] theorem State.deliver_quad (s : State) (v : Word) : (s.deliver v).quad = s.quad := (rfl)
@[simp] theorem State.deliver_num (s : State) (v : Word) : (s.deliver v).num = s.num := (rfl)
@[simp] theorem State.deliver_root (s : State) (v : Word) : (s.deliver v).root = s.root := (rfl)
@[simp] theorem State.deliver_cnt (s : State) (v : Word) : (s.deliver v).cnt = s.cnt := (rfl)
@[simp] theorem State.deliver_sinTable (s : State) (v : Word) : (s.deliver v).sinTable = s.sinTable := (rfl)
@[simp] theorem State.deliver_atanTable (s : State) (v : Word) : (s.deliver v).atanTable = s.atanTable := (rfl)
@[simp] theorem State.deliver_host (s : State) (v : Word) : (s.deliver v).host = s.host := (rfl)
@[simp] theorem State.deliver_draws (s : State) (v : Word) : (s.deliver v).draws = s.draws := (rfl)

/-! `State.deliverPair`. -/

@[simp] theorem State.deliverPair_r0 (s : State) (v w : Word) : (s.deliverPair v w).r0 = v := (rfl)
@[simp] theorem State.deliverPair_r1 (s : State) (v w : Word) : (s.deliverPair v w).r1 = w := (rfl)
@[simp] theorem State.deliverPair_ill (s : State) (v w : Word) : (s.deliverPair v w).ill = false := (rfl)
@[simp] theorem State.deliverPair_busy (s : State) (v w : Word) : (s.deliverPair v w).busy = false := (rfl)
@[simp] theorem State.deliverPair_done (s : State) (v w : Word) : (s.deliverPair v w).done = true := (rfl)
@[simp] theorem State.deliverPair_op (s : State) (v w : Word) : (s.deliverPair v w).op = s.op := (rfl)
@[simp] theorem State.deliverPair_a (s : State) (v w : Word) : (s.deliverPair v w).a = s.a := (rfl)
@[simp] theorem State.deliverPair_b (s : State) (v w : Word) : (s.deliverPair v w).b = s.b := (rfl)
@[simp] theorem State.deliverPair_x (s : State) (v w : Word) : (s.deliverPair v w).x = s.x := (rfl)
@[simp] theorem State.deliverPair_y (s : State) (v w : Word) : (s.deliverPair v w).y = s.y := (rfl)
@[simp] theorem State.deliverPair_ang (s : State) (v w : Word) : (s.deliverPair v w).ang = s.ang := (rfl)
@[simp] theorem State.deliverPair_quad (s : State) (v w : Word) : (s.deliverPair v w).quad = s.quad := (rfl)
@[simp] theorem State.deliverPair_num (s : State) (v w : Word) : (s.deliverPair v w).num = s.num := (rfl)
@[simp] theorem State.deliverPair_root (s : State) (v w : Word) : (s.deliverPair v w).root = s.root := (rfl)
@[simp] theorem State.deliverPair_cnt (s : State) (v w : Word) : (s.deliverPair v w).cnt = s.cnt := (rfl)
@[simp] theorem State.deliverPair_sinTable (s : State) (v w : Word) : (s.deliverPair v w).sinTable = s.sinTable := (rfl)
@[simp] theorem State.deliverPair_atanTable (s : State) (v w : Word) : (s.deliverPair v w).atanTable = s.atanTable := (rfl)
@[simp] theorem State.deliverPair_host (s : State) (v w : Word) : (s.deliverPair v w).host = s.host := (rfl)
@[simp] theorem State.deliverPair_draws (s : State) (v w : Word) : (s.deliverPair v w).draws = s.draws := (rfl)

/-! `State.raiseIllegalOp`. -/

@[simp] theorem State.raiseIllegalOp_r0 (s : State) : s.raiseIllegalOp.r0 = s.r0 := (rfl)
@[simp] theorem State.raiseIllegalOp_r1 (s : State) : s.raiseIllegalOp.r1 = s.r1 := (rfl)
@[simp] theorem State.raiseIllegalOp_ill (s : State) : s.raiseIllegalOp.ill = true := (rfl)
@[simp] theorem State.raiseIllegalOp_busy (s : State) : s.raiseIllegalOp.busy = false := (rfl)
@[simp] theorem State.raiseIllegalOp_done (s : State) : s.raiseIllegalOp.done = true := (rfl)
@[simp] theorem State.raiseIllegalOp_op (s : State) : s.raiseIllegalOp.op = s.op := (rfl)
@[simp] theorem State.raiseIllegalOp_a (s : State) : s.raiseIllegalOp.a = s.a := (rfl)
@[simp] theorem State.raiseIllegalOp_b (s : State) : s.raiseIllegalOp.b = s.b := (rfl)
@[simp] theorem State.raiseIllegalOp_x (s : State) : s.raiseIllegalOp.x = s.x := (rfl)
@[simp] theorem State.raiseIllegalOp_y (s : State) : s.raiseIllegalOp.y = s.y := (rfl)
@[simp] theorem State.raiseIllegalOp_ang (s : State) : s.raiseIllegalOp.ang = s.ang := (rfl)
@[simp] theorem State.raiseIllegalOp_quad (s : State) : s.raiseIllegalOp.quad = s.quad := (rfl)
@[simp] theorem State.raiseIllegalOp_num (s : State) : s.raiseIllegalOp.num = s.num := (rfl)
@[simp] theorem State.raiseIllegalOp_root (s : State) : s.raiseIllegalOp.root = s.root := (rfl)
@[simp] theorem State.raiseIllegalOp_cnt (s : State) : s.raiseIllegalOp.cnt = s.cnt := (rfl)
@[simp] theorem State.raiseIllegalOp_sinTable (s : State) : s.raiseIllegalOp.sinTable = s.sinTable := (rfl)
@[simp] theorem State.raiseIllegalOp_atanTable (s : State) : s.raiseIllegalOp.atanTable = s.atanTable := (rfl)
@[simp] theorem State.raiseIllegalOp_host (s : State) : s.raiseIllegalOp.host = s.host := (rfl)
@[simp] theorem State.raiseIllegalOp_draws (s : State) : s.raiseIllegalOp.draws = s.draws := (rfl)

/-! `State.setRotation`. -/

@[simp] theorem State.setRotation_r0 (s : State) (v : Rotation) : (s.setRotation v).r0 = s.r0 := (rfl)
@[simp] theorem State.setRotation_r1 (s : State) (v : Rotation) : (s.setRotation v).r1 = s.r1 := (rfl)
@[simp] theorem State.setRotation_ill (s : State) (v : Rotation) : (s.setRotation v).ill = s.ill := (rfl)
@[simp] theorem State.setRotation_busy (s : State) (v : Rotation) : (s.setRotation v).busy = s.busy := (rfl)
@[simp] theorem State.setRotation_done (s : State) (v : Rotation) : (s.setRotation v).done = s.done := (rfl)
@[simp] theorem State.setRotation_op (s : State) (v : Rotation) : (s.setRotation v).op = s.op := (rfl)
@[simp] theorem State.setRotation_a (s : State) (v : Rotation) : (s.setRotation v).a = s.a := (rfl)
@[simp] theorem State.setRotation_b (s : State) (v : Rotation) : (s.setRotation v).b = s.b := (rfl)
@[simp] theorem State.setRotation_x (s : State) (v : Rotation) : (s.setRotation v).x = v.x := (rfl)
@[simp] theorem State.setRotation_y (s : State) (v : Rotation) : (s.setRotation v).y = v.y := (rfl)
@[simp] theorem State.setRotation_ang (s : State) (v : Rotation) : (s.setRotation v).ang = v.ang := (rfl)
@[simp] theorem State.setRotation_quad (s : State) (v : Rotation) : (s.setRotation v).quad = s.quad := (rfl)
@[simp] theorem State.setRotation_num (s : State) (v : Rotation) : (s.setRotation v).num = s.num := (rfl)
@[simp] theorem State.setRotation_root (s : State) (v : Rotation) : (s.setRotation v).root = s.root := (rfl)
@[simp] theorem State.setRotation_cnt (s : State) (v : Rotation) : (s.setRotation v).cnt = s.cnt := (rfl)
@[simp] theorem State.setRotation_sinTable (s : State) (v : Rotation) : (s.setRotation v).sinTable = s.sinTable := (rfl)
@[simp] theorem State.setRotation_atanTable (s : State) (v : Rotation) : (s.setRotation v).atanTable = s.atanTable := (rfl)
@[simp] theorem State.setRotation_host (s : State) (v : Rotation) : (s.setRotation v).host = s.host := (rfl)
@[simp] theorem State.setRotation_draws (s : State) (v : Rotation) : (s.setRotation v).draws = s.draws := (rfl)

/-! `State.setRootPair`. -/

@[simp] theorem State.setRootPair_r0 (s : State) (v : RootPair) : (s.setRootPair v).r0 = s.r0 := (rfl)
@[simp] theorem State.setRootPair_r1 (s : State) (v : RootPair) : (s.setRootPair v).r1 = s.r1 := (rfl)
@[simp] theorem State.setRootPair_ill (s : State) (v : RootPair) : (s.setRootPair v).ill = s.ill := (rfl)
@[simp] theorem State.setRootPair_busy (s : State) (v : RootPair) : (s.setRootPair v).busy = s.busy := (rfl)
@[simp] theorem State.setRootPair_done (s : State) (v : RootPair) : (s.setRootPair v).done = s.done := (rfl)
@[simp] theorem State.setRootPair_op (s : State) (v : RootPair) : (s.setRootPair v).op = s.op := (rfl)
@[simp] theorem State.setRootPair_a (s : State) (v : RootPair) : (s.setRootPair v).a = s.a := (rfl)
@[simp] theorem State.setRootPair_b (s : State) (v : RootPair) : (s.setRootPair v).b = s.b := (rfl)
@[simp] theorem State.setRootPair_x (s : State) (v : RootPair) : (s.setRootPair v).x = s.x := (rfl)
@[simp] theorem State.setRootPair_y (s : State) (v : RootPair) : (s.setRootPair v).y = s.y := (rfl)
@[simp] theorem State.setRootPair_ang (s : State) (v : RootPair) : (s.setRootPair v).ang = s.ang := (rfl)
@[simp] theorem State.setRootPair_quad (s : State) (v : RootPair) : (s.setRootPair v).quad = s.quad := (rfl)
@[simp] theorem State.setRootPair_num (s : State) (v : RootPair) : (s.setRootPair v).num = v.num := (rfl)
@[simp] theorem State.setRootPair_root (s : State) (v : RootPair) : (s.setRootPair v).root = v.root := (rfl)
@[simp] theorem State.setRootPair_cnt (s : State) (v : RootPair) : (s.setRootPair v).cnt = s.cnt := (rfl)
@[simp] theorem State.setRootPair_sinTable (s : State) (v : RootPair) : (s.setRootPair v).sinTable = s.sinTable := (rfl)
@[simp] theorem State.setRootPair_atanTable (s : State) (v : RootPair) : (s.setRootPair v).atanTable = s.atanTable := (rfl)
@[simp] theorem State.setRootPair_host (s : State) (v : RootPair) : (s.setRootPair v).host = s.host := (rfl)
@[simp] theorem State.setRootPair_draws (s : State) (v : RootPair) : (s.setRootPair v).draws = s.draws := (rfl)

/-! `State.setQuadrant`. -/

@[simp] theorem State.setQuadrant_r0 (s : State) (q : BitVec 2) : (s.setQuadrant q).r0 = s.r0 := (rfl)
@[simp] theorem State.setQuadrant_r1 (s : State) (q : BitVec 2) : (s.setQuadrant q).r1 = s.r1 := (rfl)
@[simp] theorem State.setQuadrant_ill (s : State) (q : BitVec 2) : (s.setQuadrant q).ill = s.ill := (rfl)
@[simp] theorem State.setQuadrant_busy (s : State) (q : BitVec 2) : (s.setQuadrant q).busy = s.busy := (rfl)
@[simp] theorem State.setQuadrant_done (s : State) (q : BitVec 2) : (s.setQuadrant q).done = s.done := (rfl)
@[simp] theorem State.setQuadrant_op (s : State) (q : BitVec 2) : (s.setQuadrant q).op = s.op := (rfl)
@[simp] theorem State.setQuadrant_a (s : State) (q : BitVec 2) : (s.setQuadrant q).a = s.a := (rfl)
@[simp] theorem State.setQuadrant_b (s : State) (q : BitVec 2) : (s.setQuadrant q).b = s.b := (rfl)
@[simp] theorem State.setQuadrant_x (s : State) (q : BitVec 2) : (s.setQuadrant q).x = s.x := (rfl)
@[simp] theorem State.setQuadrant_y (s : State) (q : BitVec 2) : (s.setQuadrant q).y = s.y := (rfl)
@[simp] theorem State.setQuadrant_ang (s : State) (q : BitVec 2) : (s.setQuadrant q).ang = s.ang := (rfl)
@[simp] theorem State.setQuadrant_quad (s : State) (q : BitVec 2) : (s.setQuadrant q).quad = q := (rfl)
@[simp] theorem State.setQuadrant_num (s : State) (q : BitVec 2) : (s.setQuadrant q).num = s.num := (rfl)
@[simp] theorem State.setQuadrant_root (s : State) (q : BitVec 2) : (s.setQuadrant q).root = s.root := (rfl)
@[simp] theorem State.setQuadrant_cnt (s : State) (q : BitVec 2) : (s.setQuadrant q).cnt = s.cnt := (rfl)
@[simp] theorem State.setQuadrant_sinTable (s : State) (q : BitVec 2) : (s.setQuadrant q).sinTable = s.sinTable := (rfl)
@[simp] theorem State.setQuadrant_atanTable (s : State) (q : BitVec 2) : (s.setQuadrant q).atanTable = s.atanTable := (rfl)
@[simp] theorem State.setQuadrant_host (s : State) (q : BitVec 2) : (s.setQuadrant q).host = s.host := (rfl)
@[simp] theorem State.setQuadrant_draws (s : State) (q : BitVec 2) : (s.setQuadrant q).draws = s.draws := (rfl)

/-! `State.setCount`. -/

@[simp] theorem State.setCount_r0 (s : State) (n : BitVec 5) : (s.setCount n).r0 = s.r0 := (rfl)
@[simp] theorem State.setCount_r1 (s : State) (n : BitVec 5) : (s.setCount n).r1 = s.r1 := (rfl)
@[simp] theorem State.setCount_ill (s : State) (n : BitVec 5) : (s.setCount n).ill = s.ill := (rfl)
@[simp] theorem State.setCount_busy (s : State) (n : BitVec 5) : (s.setCount n).busy = s.busy := (rfl)
@[simp] theorem State.setCount_done (s : State) (n : BitVec 5) : (s.setCount n).done = s.done := (rfl)
@[simp] theorem State.setCount_op (s : State) (n : BitVec 5) : (s.setCount n).op = s.op := (rfl)
@[simp] theorem State.setCount_a (s : State) (n : BitVec 5) : (s.setCount n).a = s.a := (rfl)
@[simp] theorem State.setCount_b (s : State) (n : BitVec 5) : (s.setCount n).b = s.b := (rfl)
@[simp] theorem State.setCount_x (s : State) (n : BitVec 5) : (s.setCount n).x = s.x := (rfl)
@[simp] theorem State.setCount_y (s : State) (n : BitVec 5) : (s.setCount n).y = s.y := (rfl)
@[simp] theorem State.setCount_ang (s : State) (n : BitVec 5) : (s.setCount n).ang = s.ang := (rfl)
@[simp] theorem State.setCount_quad (s : State) (n : BitVec 5) : (s.setCount n).quad = s.quad := (rfl)
@[simp] theorem State.setCount_num (s : State) (n : BitVec 5) : (s.setCount n).num = s.num := (rfl)
@[simp] theorem State.setCount_root (s : State) (n : BitVec 5) : (s.setCount n).root = s.root := (rfl)
@[simp] theorem State.setCount_cnt (s : State) (n : BitVec 5) : (s.setCount n).cnt = n := (rfl)
@[simp] theorem State.setCount_sinTable (s : State) (n : BitVec 5) : (s.setCount n).sinTable = s.sinTable := (rfl)
@[simp] theorem State.setCount_atanTable (s : State) (n : BitVec 5) : (s.setCount n).atanTable = s.atanTable := (rfl)
@[simp] theorem State.setCount_host (s : State) (n : BitVec 5) : (s.setCount n).host = s.host := (rfl)
@[simp] theorem State.setCount_draws (s : State) (n : BitVec 5) : (s.setCount n).draws = s.draws := (rfl)

/-! `State.finishAtan2`. -/

@[simp] theorem State.finishAtan2_r0 (s : State) (v : Rotation) (q : BitVec 2) : (s.finishAtan2 v q).r0 = correct q v.ang := (rfl)
@[simp] theorem State.finishAtan2_r1 (s : State) (v : Rotation) (q : BitVec 2) : (s.finishAtan2 v q).r1 = s.r1 := (rfl)
@[simp] theorem State.finishAtan2_ill (s : State) (v : Rotation) (q : BitVec 2) : (s.finishAtan2 v q).ill = false := (rfl)
@[simp] theorem State.finishAtan2_busy (s : State) (v : Rotation) (q : BitVec 2) : (s.finishAtan2 v q).busy = false := (rfl)
@[simp] theorem State.finishAtan2_done (s : State) (v : Rotation) (q : BitVec 2) : (s.finishAtan2 v q).done = true := (rfl)
@[simp] theorem State.finishAtan2_op (s : State) (v : Rotation) (q : BitVec 2) : (s.finishAtan2 v q).op = s.op := (rfl)
@[simp] theorem State.finishAtan2_a (s : State) (v : Rotation) (q : BitVec 2) : (s.finishAtan2 v q).a = s.a := (rfl)
@[simp] theorem State.finishAtan2_b (s : State) (v : Rotation) (q : BitVec 2) : (s.finishAtan2 v q).b = s.b := (rfl)
@[simp] theorem State.finishAtan2_x (s : State) (v : Rotation) (q : BitVec 2) : (s.finishAtan2 v q).x = v.x := (rfl)
@[simp] theorem State.finishAtan2_y (s : State) (v : Rotation) (q : BitVec 2) : (s.finishAtan2 v q).y = v.y := (rfl)
@[simp] theorem State.finishAtan2_ang (s : State) (v : Rotation) (q : BitVec 2) : (s.finishAtan2 v q).ang = v.ang := (rfl)
@[simp] theorem State.finishAtan2_quad (s : State) (v : Rotation) (q : BitVec 2) : (s.finishAtan2 v q).quad = q := (rfl)
@[simp] theorem State.finishAtan2_num (s : State) (v : Rotation) (q : BitVec 2) : (s.finishAtan2 v q).num = s.num := (rfl)
@[simp] theorem State.finishAtan2_root (s : State) (v : Rotation) (q : BitVec 2) : (s.finishAtan2 v q).root = s.root := (rfl)
@[simp] theorem State.finishAtan2_cnt (s : State) (v : Rotation) (q : BitVec 2) : (s.finishAtan2 v q).cnt = 13#5 := (rfl)
@[simp] theorem State.finishAtan2_sinTable (s : State) (v : Rotation) (q : BitVec 2) : (s.finishAtan2 v q).sinTable = s.sinTable := (rfl)
@[simp] theorem State.finishAtan2_atanTable (s : State) (v : Rotation) (q : BitVec 2) : (s.finishAtan2 v q).atanTable = s.atanTable := (rfl)
@[simp] theorem State.finishAtan2_host (s : State) (v : Rotation) (q : BitVec 2) : (s.finishAtan2 v q).host = s.host := (rfl)
@[simp] theorem State.finishAtan2_draws (s : State) (v : Rotation) (q : BitVec 2) : (s.finishAtan2 v q).draws = s.draws := (rfl)

/-! `State.finishIsqrt`. -/

@[simp] theorem State.finishIsqrt_r0 (s : State) (v : RootPair) : (s.finishIsqrt v).r0 = v.root := (rfl)
@[simp] theorem State.finishIsqrt_r1 (s : State) (v : RootPair) : (s.finishIsqrt v).r1 = s.r1 := (rfl)
@[simp] theorem State.finishIsqrt_ill (s : State) (v : RootPair) : (s.finishIsqrt v).ill = false := (rfl)
@[simp] theorem State.finishIsqrt_busy (s : State) (v : RootPair) : (s.finishIsqrt v).busy = false := (rfl)
@[simp] theorem State.finishIsqrt_done (s : State) (v : RootPair) : (s.finishIsqrt v).done = true := (rfl)
@[simp] theorem State.finishIsqrt_op (s : State) (v : RootPair) : (s.finishIsqrt v).op = s.op := (rfl)
@[simp] theorem State.finishIsqrt_a (s : State) (v : RootPair) : (s.finishIsqrt v).a = s.a := (rfl)
@[simp] theorem State.finishIsqrt_b (s : State) (v : RootPair) : (s.finishIsqrt v).b = s.b := (rfl)
@[simp] theorem State.finishIsqrt_x (s : State) (v : RootPair) : (s.finishIsqrt v).x = s.x := (rfl)
@[simp] theorem State.finishIsqrt_y (s : State) (v : RootPair) : (s.finishIsqrt v).y = s.y := (rfl)
@[simp] theorem State.finishIsqrt_ang (s : State) (v : RootPair) : (s.finishIsqrt v).ang = s.ang := (rfl)
@[simp] theorem State.finishIsqrt_quad (s : State) (v : RootPair) : (s.finishIsqrt v).quad = s.quad := (rfl)
@[simp] theorem State.finishIsqrt_num (s : State) (v : RootPair) : (s.finishIsqrt v).num = v.num := (rfl)
@[simp] theorem State.finishIsqrt_root (s : State) (v : RootPair) : (s.finishIsqrt v).root = v.root := (rfl)
@[simp] theorem State.finishIsqrt_cnt (s : State) (v : RootPair) : (s.finishIsqrt v).cnt = 16#5 := (rfl)
@[simp] theorem State.finishIsqrt_sinTable (s : State) (v : RootPair) : (s.finishIsqrt v).sinTable = s.sinTable := (rfl)
@[simp] theorem State.finishIsqrt_atanTable (s : State) (v : RootPair) : (s.finishIsqrt v).atanTable = s.atanTable := (rfl)
@[simp] theorem State.finishIsqrt_host (s : State) (v : RootPair) : (s.finishIsqrt v).host = s.host := (rfl)
@[simp] theorem State.finishIsqrt_draws (s : State) (v : RootPair) : (s.finishIsqrt v).draws = s.draws := (rfl)

/-! `State.presentWord`. -/

@[simp] theorem State.presentWord_r0 (s : State) (w : Cmd) : (s.presentWord w).r0 = s.r0 := (rfl)
@[simp] theorem State.presentWord_r1 (s : State) (w : Cmd) : (s.presentWord w).r1 = s.r1 := (rfl)
@[simp] theorem State.presentWord_ill (s : State) (w : Cmd) : (s.presentWord w).ill = s.ill := (rfl)
@[simp] theorem State.presentWord_busy (s : State) (w : Cmd) : (s.presentWord w).busy = false := (rfl)
@[simp] theorem State.presentWord_done (s : State) (w : Cmd) : (s.presentWord w).done = s.done := (rfl)
@[simp] theorem State.presentWord_op (s : State) (w : Cmd) : (s.presentWord w).op = s.op := (rfl)
@[simp] theorem State.presentWord_a (s : State) (w : Cmd) : (s.presentWord w).a = s.a := (rfl)
@[simp] theorem State.presentWord_b (s : State) (w : Cmd) : (s.presentWord w).b = s.b := (rfl)
@[simp] theorem State.presentWord_x (s : State) (w : Cmd) : (s.presentWord w).x = s.x := (rfl)
@[simp] theorem State.presentWord_y (s : State) (w : Cmd) : (s.presentWord w).y = s.y := (rfl)
@[simp] theorem State.presentWord_ang (s : State) (w : Cmd) : (s.presentWord w).ang = s.ang := (rfl)
@[simp] theorem State.presentWord_quad (s : State) (w : Cmd) : (s.presentWord w).quad = s.quad := (rfl)
@[simp] theorem State.presentWord_num (s : State) (w : Cmd) : (s.presentWord w).num = s.num := (rfl)
@[simp] theorem State.presentWord_root (s : State) (w : Cmd) : (s.presentWord w).root = s.root := (rfl)
@[simp] theorem State.presentWord_cnt (s : State) (w : Cmd) : (s.presentWord w).cnt = s.cnt := (rfl)
@[simp] theorem State.presentWord_sinTable (s : State) (w : Cmd) : (s.presentWord w).sinTable = s.sinTable := (rfl)
@[simp] theorem State.presentWord_atanTable (s : State) (w : Cmd) : (s.presentWord w).atanTable = s.atanTable := (rfl)
@[simp] theorem State.presentWord_host (s : State) (w : Cmd) : (s.presentWord w).host = .command (cmdOp w) (.word (cmdA w)) (.word (cmdB w)) :: s.host := (rfl)
@[simp] theorem State.presentWord_draws (s : State) (w : Cmd) : (s.presentWord w).draws = s.draws := (rfl)

/-! `State.resetStep`. -/

@[simp] theorem State.resetStep_r0 (s : State) : s.resetStep.r0 = 0#32 := (rfl)
@[simp] theorem State.resetStep_r1 (s : State) : s.resetStep.r1 = 0#32 := (rfl)
@[simp] theorem State.resetStep_ill (s : State) : s.resetStep.ill = false := (rfl)
@[simp] theorem State.resetStep_busy (s : State) : s.resetStep.busy = false := (rfl)
@[simp] theorem State.resetStep_done (s : State) : s.resetStep.done = false := (rfl)
@[simp] theorem State.resetStep_op (s : State) : s.resetStep.op = Config.unspecified 3 .op s.draws := (rfl)
@[simp] theorem State.resetStep_a (s : State) : s.resetStep.a = Config.unspecified 32 .a s.draws := (rfl)
@[simp] theorem State.resetStep_b (s : State) : s.resetStep.b = Config.unspecified 32 .b s.draws := (rfl)
@[simp] theorem State.resetStep_x (s : State) : s.resetStep.x = Config.unspecified 32 .x s.draws := (rfl)
@[simp] theorem State.resetStep_y (s : State) : s.resetStep.y = Config.unspecified 32 .y s.draws := (rfl)
@[simp] theorem State.resetStep_ang (s : State) : s.resetStep.ang = Config.unspecified 32 .ang s.draws := (rfl)
@[simp] theorem State.resetStep_quad (s : State) : s.resetStep.quad = Config.unspecified 2 .quad s.draws := (rfl)
@[simp] theorem State.resetStep_num (s : State) : s.resetStep.num = Config.unspecified 32 .num s.draws := (rfl)
@[simp] theorem State.resetStep_root (s : State) : s.resetStep.root = Config.unspecified 32 .root s.draws := (rfl)
@[simp] theorem State.resetStep_cnt (s : State) : s.resetStep.cnt = Config.unspecified 5 .cnt s.draws := (rfl)
@[simp] theorem State.resetStep_sinTable (s : State) : s.resetStep.sinTable = s.sinTable := (rfl)
@[simp] theorem State.resetStep_atanTable (s : State) : s.resetStep.atanTable = s.atanTable := (rfl)
@[simp] theorem State.resetStep_host (s : State) : s.resetStep.host = s.host := (rfl)
@[simp] theorem State.resetStep_draws (s : State) : s.resetStep.draws = s.draws + 1 := (rfl)

end Sys2Proof.Machine
end

