-- ==== Sys2Proof/Laws/Clock.lean ====
section
/-!
SUPPORT. What one clock edge can do, once: an equation per row of the step table (70 R183), and the inversion every
invariant proof starts from.
-/

namespace Sys2Proof.Machine

variable {p : Pins} {s t : State}

theorem clockEdge_reset (h : p.rst = true) : clockEdge p s = .next s.resetStep := by
  simp [clockEdge, h]

theorem clockEdge_idle (h : p.rst = false) (hb : s.busy = false) (hv : p.cmdValid = false) :
    clockEdge p s = .next s.clearDone := by
  simp [clockEdge, h, hb, hv]

theorem clockEdge_accept (h : p.rst = false) (hb : s.busy = false) (hv : p.cmdValid = true) :
    clockEdge p s = .next (s.acceptStep p.cmdOp p.cmdA p.cmdB) := by
  simp [clockEdge, h, hb, hv]

theorem clockEdge_iterate (h : p.rst = false) (hb : s.busy = true) (hc : s.cnt.toNat < iterations s.op) :
    clockEdge p s = .next s.iterateStep := by
  simp [clockEdge, h, hb, hc]

theorem clockEdge_complete (h : p.rst = false) (hb : s.busy = true)
    (hc : iterations s.op = 0 ∨ s.cnt.toNat = iterations s.op) : clockEdge p s = .next s.completeStep := by
  have hn : ¬ s.cnt.toNat < iterations s.op := by omega
  simp [clockEdge, h, hb, hn, hc]

theorem clockEdge_stuck (h : p.rst = false) (hb : s.busy = true) (h0 : iterations s.op ≠ 0)
    (hc : iterations s.op < s.cnt.toNat) : clockEdge p s = .fault .stepCounterBeyondLoop := by
  have hn : ¬ s.cnt.toNat < iterations s.op := by omega
  have hm : ¬ (iterations s.op = 0 ∨ s.cnt.toNat = iterations s.op) := by omega
  simp [clockEdge, h, hb, hn, hm]

/-- If an edge answers a next state, one of the five rows of the step table did it. -/
theorem clockEdge_next_cases (h : clockEdge p s = .next t) :
    (p.rst = true ∧ t = s.resetStep) ∨
    (p.rst = false ∧ s.busy = false ∧ p.cmdValid = false ∧ t = s.clearDone) ∨
    (p.rst = false ∧ s.busy = false ∧ p.cmdValid = true ∧ t = s.acceptStep p.cmdOp p.cmdA p.cmdB) ∨
    (p.rst = false ∧ s.busy = true ∧ s.cnt.toNat < iterations s.op ∧ t = s.iterateStep) ∨
    (p.rst = false ∧ s.busy = true ∧ (iterations s.op = 0 ∨ s.cnt.toNat = iterations s.op) ∧
      t = s.completeStep) := by
  unfold clockEdge at h
  split at h
  · cases h; exact .inl ⟨‹_›, rfl⟩
  · have hr : p.rst = false := by simpa using ‹¬ p.rst = true›
    split at h
    · have hb : s.busy = true := ‹_›
      split at h
      · cases h; exact .inr (.inr (.inr (.inl ⟨hr, hb, ‹_›, rfl⟩)))
      · split at h
        · cases h; exact .inr (.inr (.inr (.inr ⟨hr, hb, ‹_›, rfl⟩)))
        · cases h
    · have hb : s.busy = false := by simpa using ‹¬ s.busy = true›
      split at h
      · cases h; exact .inr (.inr (.inl ⟨hr, hb, ‹_›, rfl⟩))
      · cases h; exact .inr (.inl ⟨hr, hb, by simpa using ‹¬ p.cmdValid = true›, rfl⟩)

theorem acceptStep_atan2 (a b : Word) :
    s.acceptStep 3#3 a b =
      (((s.latch 3#3 a b).setRotation (reduceStart a b)).setQuadrant (reduceQuadrant a b)).setCount 0#5 := rfl

theorem acceptStep_isqrt (a b : Word) :
    s.acceptStep 4#3 a b = ((s.latch 4#3 a b).setRootPair (sqrtStart a)).setCount 0#5 := rfl

theorem acceptStep_noLoop {op : BitVec 3} (a b : Word) (h : iterations op = 0) :
    s.acceptStep op a b = s.latch op a b := by
  unfold iterations at h
  unfold State.acceptStep
  split at h <;> simp_all

theorem iterateStep_atan2 (h : s.op = 3#3) (hc : s.cnt.toNat < 13) :
    s.iterateStep =
      ((s.setRotation (atanStep s.atanTable ⟨s.cnt.toNat, hc⟩ s.rotation)).setCount (s.cnt + 1#5)).clearDone := by
  unfold State.iterateStep
  split
  · rw [dif_pos hc]
  · simp_all
  · simp_all

theorem iterateStep_isqrt (h : s.op = 4#3) :
    s.iterateStep =
      ((s.setRootPair (sqrtStep (30 - 2 * s.cnt.toNat) s.rootPair)).setCount (s.cnt + 1#5)).clearDone := by
  unfold State.iterateStep
  split <;> simp_all

/-- The step counter counts without wrapping inside either loop (10 R24). -/
theorem cnt_succ_toNat {n : BitVec 5} (h : n.toNat < 16) : (n + 1#5).toNat = n.toNat + 1 := by
  simp only [BitVec.toNat_add, BitVec.toNat_ofNat]; omega

theorem iterations_cases (op : BitVec 3) :
    (op = 3#3 ∧ iterations op = 13) ∨ (op = 4#3 ∧ iterations op = 16) ∨
    (op ≠ 3#3 ∧ op ≠ 4#3 ∧ iterations op = 0) := by
  revert op; decide

theorem latched_atan2 (h : s.op = 3#3) : s.latched = .atan2 s.a s.b := by
  simp [State.latched, h, Instr.ofFields]

theorem latched_isqrt (h : s.op = 4#3) : s.latched = .isqrt s.a s.b := by
  simp [State.latched, h, Instr.ofFields]

theorem completeStep_atan2 (h : s.op = 3#3) : s.completeStep = s.deliver (correct s.quad s.ang) := by
  rw [State.completeStep, latched_atan2 h]

theorem completeStep_isqrt (h : s.op = 4#3) : s.completeStep = s.deliver s.root := by
  rw [State.completeStep, latched_isqrt h]

/-- What every accept step leaves alone. -/
theorem acceptStep_frame (op : BitVec 3) (a b : Word) :
    (s.acceptStep op a b).r0 = s.r0 ∧ (s.acceptStep op a b).r1 = s.r1 ∧ (s.acceptStep op a b).ill = s.ill ∧
    (s.acceptStep op a b).busy = true ∧ (s.acceptStep op a b).done = false ∧
    (s.acceptStep op a b).sinTable = s.sinTable ∧ (s.acceptStep op a b).atanTable = s.atanTable ∧
    (s.acceptStep op a b).host = s.host ∧ (s.acceptStep op a b).draws = s.draws := by
  unfold State.acceptStep
  split <;> simp

/-- What every iterate step leaves alone. -/
theorem iterateStep_frame :
    s.iterateStep.r0 = s.r0 ∧ s.iterateStep.r1 = s.r1 ∧ s.iterateStep.ill = s.ill ∧
    s.iterateStep.busy = s.busy ∧ s.iterateStep.op = s.op ∧ s.iterateStep.a = s.a ∧ s.iterateStep.b = s.b ∧
    s.iterateStep.quad = s.quad ∧ s.iterateStep.sinTable = s.sinTable ∧
    s.iterateStep.atanTable = s.atanTable ∧ s.iterateStep.host = s.host ∧ s.iterateStep.draws = s.draws := by
  unfold State.iterateStep
  split
  · split <;> simp
  · simp
  · simp

/-- What every complete step leaves alone, and the flags it sets. -/
theorem completeStep_frame :
    s.completeStep.busy = false ∧ s.completeStep.done = true ∧ s.completeStep.op = s.op ∧
    s.completeStep.a = s.a ∧ s.completeStep.b = s.b ∧ s.completeStep.rotation = s.rotation ∧
    s.completeStep.quad = s.quad ∧ s.completeStep.rootPair = s.rootPair ∧ s.completeStep.cnt = s.cnt ∧
    s.completeStep.sinTable = s.sinTable ∧ s.completeStep.atanTable = s.atanTable ∧
    s.completeStep.host = s.host ∧ s.completeStep.draws = s.draws := by
  unfold State.completeStep
  cases s.latched <;> simp [State.rotation, State.rootPair]

/-- No clock edge writes a table or touches the host's list (10 R39). -/
theorem clockEdge_keeps_tables (h : clockEdge p s = .next t) :
    t.sinTable = s.sinTable ∧ t.atanTable = s.atanTable ∧ t.host = s.host := by
  obtain ⟨-, rfl⟩ | ⟨-, -, -, rfl⟩ | ⟨-, -, -, rfl⟩ | ⟨-, -, -, rfl⟩ | ⟨-, -, -, rfl⟩ := clockEdge_next_cases h
  · simp
  · simp
  · obtain ⟨-, -, -, -, -, h1, h2, h3, -⟩ := acceptStep_frame (s := s) p.cmdOp p.cmdA p.cmdB
    exact ⟨h1, h2, h3⟩
  · obtain ⟨-, -, -, -, -, -, -, -, h1, h2, h3, -⟩ := iterateStep_frame (s := s)
    exact ⟨h1, h2, h3⟩
  · obtain ⟨-, -, -, -, -, -, -, -, -, h1, h2, h3, -⟩ := completeStep_frame (s := s)
    exact ⟨h1, h2, h3⟩

end Sys2Proof.Machine
end

