-- ==== Sys2Proof/Laws/Decode.lean ====
section
/-!
SUPPORT. The three fields of a packed command word, as arithmetic (30 R70).
-/

namespace Sys2Proof

/-- The number of a packed word. -/
theorem cmd_toNat (o : BitVec 3) (a b : Word) :
    (show Cmd from o ++ a ++ b).toNat = o.toNat * 2 ^ 64 + a.toNat * 2 ^ 32 + b.toNat := by
  show (o ++ a ++ b).toNat = _
  rw [BitVec.toNat_append, BitVec.toNat_append, ← Nat.shiftLeft_add_eq_or_of_lt b.isLt,
    ← Nat.shiftLeft_add_eq_or_of_lt a.isLt, Nat.shiftLeft_eq, Nat.shiftLeft_eq]
  omega

theorem cmdOp_append (o : BitVec 3) (a b : Word) : cmdOp (o ++ a ++ b) = o := by
  apply BitVec.eq_of_toNat_eq
  have h := cmd_toNat o a b
  have ha := a.isLt
  have hb := b.isLt
  have ho := o.isLt
  simp only [cmdOp, BitVec.extractLsb'_toNat, Nat.shiftRight_eq_div_pow] at *
  omega

theorem cmdA_append (o : BitVec 3) (a b : Word) : cmdA (o ++ a ++ b) = a := by
  apply BitVec.eq_of_toNat_eq
  have h := cmd_toNat o a b
  have ha := a.isLt
  have hb := b.isLt
  simp only [cmdA, BitVec.extractLsb'_toNat, Nat.shiftRight_eq_div_pow] at *
  omega

theorem cmdB_append (o : BitVec 3) (a b : Word) : cmdB (o ++ a ++ b) = b := by
  apply BitVec.eq_of_toNat_eq
  have h := cmd_toNat o a b
  have hb := b.isLt
  simp only [cmdB, BitVec.extractLsb'_toNat, Nat.shiftRight_eq_div_pow] at *
  omega

/-- A word is the packing of its fields. -/
theorem cmd_eq_append (w : Cmd) : w = cmdOp w ++ cmdA w ++ cmdB w := by
  apply BitVec.eq_of_toNat_eq
  have h := cmd_toNat (cmdOp w) (cmdA w) (cmdB w)
  have hw := w.isLt
  simp only [cmdOp, cmdA, cmdB, BitVec.extractLsb'_toNat, Nat.shiftRight_eq_div_pow] at *
  omega

theorem op_cases (o : BitVec 3) :
    o = 0#3 ∨ o = 1#3 ∨ o = 2#3 ∨ o = 3#3 ∨ o = 4#3 ∨ o = 5#3 ∨ o = 6#3 ∨ o = 7#3 := by
  revert o; decide

theorem ofFields_op (o : BitVec 3) (a b : Word) : (Instr.ofFields o a b).op = o := by
  rcases op_cases o with rfl | rfl | rfl | rfl | rfl | rfl | rfl | rfl <;> rfl

theorem ofFields_a (o : BitVec 3) (a b : Word) : (Instr.ofFields o a b).a = a := by
  rcases op_cases o with rfl | rfl | rfl | rfl | rfl | rfl | rfl | rfl <;> rfl

theorem ofFields_b (o : BitVec 3) (a b : Word) : (Instr.ofFields o a b).b = b := by
  rcases op_cases o with rfl | rfl | rfl | rfl | rfl | rfl | rfl | rfl <;> rfl

end Sys2Proof
end

