-- ==== Sys2Proof/Laws/Words.lean ====
section
/-!
SUPPORT. The word primitives and angle fields as arithmetic on integers (00 R12, 40 R91).
-/

namespace Sys2Proof.Machine

theorem isNegative_iff (a : Word) : isNegative a = true ↔ a.toInt < 0 := by
  simp [isNegative, BitVec.slt_iff_toInt_lt]

theorem leUnsigned_iff (a b : Word) : leUnsigned a b = true ↔ a.toNat ≤ b.toNat := by
  simp [leUnsigned, BitVec.ule]

theorem asr32_toInt (a : Word) (i : Nat) : (asr32 a i).toInt = a.toInt / 2 ^ i := by
  simp [asr32, BitVec.toInt_sshiftRight, Int.shiftRight_eq_div_pow]

theorem lsr32_toNat (a : Word) (i : Nat) : (lsr32 a i).toNat = a.toNat / 2 ^ i := by
  simp [lsr32, Nat.shiftRight_eq_div_pow]

theorem zext32_toNat (w : RomWord) : (zext32 w).toNat = w.toNat := by
  simp only [zext32, BitVec.toNat_setWidth]; omega

theorem neg32_eq (a : Word) : neg32 a = -a := by
  simp [neg32, sub32]

theorem angleIndex_toNat (theta : Word) : (angleIndex theta).toNat = theta.toNat / 32 % 256 := by
  simp [angleIndex, BitVec.extractLsb'_toNat, Nat.shiftRight_eq_div_pow]

theorem angleQuadrant_toNat (theta : Word) : (angleQuadrant theta).toNat = theta.toNat / 8192 % 4 := by
  simp [angleQuadrant, BitVec.extractLsb'_toNat, Nat.shiftRight_eq_div_pow]

theorem complementIndex_toNat (k : BitVec 8) : (complementIndex k).toNat = 255 - k.toNat := by
  have := k.isLt
  simp only [complementIndex, BitVec.toNat_sub, BitVec.toNat_ofNat]; omega

end Sys2Proof.Machine
end

