-- ==== Sys2Proof/Laws/Engines.lean ====
section
/-!
SUPPORT. The loops of the two iterative engines, one body at a time (41 R113, 42 R132).
-/

namespace Sys2Proof.Machine

@[simp] theorem atanLoop_zero (t : AtanTable) (v : Rotation) : atanLoop t v 0 = v := by
  rw [atanLoop]

theorem atanLoop_succ (t : AtanTable) (v : Rotation) {n : Nat} (h : n < 13) :
    atanLoop t v (n + 1) = atanStep t ⟨n, h⟩ (atanLoop t v n) := by
  rw [atanLoop, dif_pos h]

@[simp] theorem sqrtLoop_zero (v : RootPair) : sqrtLoop v 0 = v := by
  rw [sqrtLoop]

theorem sqrtLoop_succ (v : RootPair) (n : Nat) :
    sqrtLoop v (n + 1) = sqrtStep (30 - 2 * n) (sqrtLoop v n) := by
  rw [sqrtLoop]

theorem atan2F_eq (t : AtanTable) (y x : Word) :
    atan2F t y x = correct (reduceQuadrant y x) (atanLoop t (reduceStart y x) 13).ang := by
  rw [atan2F]

@[simp] theorem result_eq (v : RootPair) : v.result = v.root := (rfl)

theorem isqrtF_eq (n : Word) : isqrtF n = (sqrtLoop (sqrtStart n) 16).result := by
  rw [isqrtF]

theorem reduceComponent_zero : reduceComponent 0#32 = 0#32 := by decide

theorem reduceQuadrant_eq (y x : Word) :
    reduceQuadrant y x =
      if isNegative x then (if isNegative y then 2#2 else 1#2) else (if isNegative y then 3#2 else 0#2) := by
  unfold reduceQuadrant
  split <;> simp_all

/-- One rotation step by the sign of `Y`, field by field. -/
theorem atanStep_negative (t : AtanTable) (i : Fin 13) (v : Rotation) (h : isNegative v.y = true) :
    atanStep t i v = ⟨sub32 v.x (asr32 v.y i.val), add32 v.y (asr32 v.x i.val),
      add32 v.ang (zext32 (memReadAtan t i))⟩ := by
  simp [atanStep, h]

theorem atanStep_nonnegative (t : AtanTable) (i : Fin 13) (v : Rotation) (h : isNegative v.y = false) :
    atanStep t i v = ⟨add32 v.x (asr32 v.y i.val), sub32 v.y (asr32 v.x i.val),
      sub32 v.ang (zext32 (memReadAtan t i))⟩ := by
  simp [atanStep, h]

end Sys2Proof.Machine
end

