-- ==== Sys2Proof/Laws/Helpers.lean ====
section
/-!
SUPPORT. What the scalar helpers with open parameters give, where the spec fixes it (43 R150 to R152).
-/

namespace Sys2Proof.Machine

theorem helperNarrow_fits {call : Config.HelperCall} {v : Int} (h : -2 ^ 31 ≤ v ∧ v < 2 ^ 31) :
    helperNarrow call v = BitVec.ofInt 32 v := if_pos h

/-- A multiple of `2^-15` has nothing to round (43 R150). -/
theorem helperFromReal_multiple {r : ℝ} {v : Int} (h : r * 2 ^ Config.fractionalBits = v) :
    helperFromReal r = helperNarrow (.fromReal r) v := by
  simp [helperFromReal, h]

/-- The conversion of a word to its real value and back gives the word (43 R150). -/
theorem helperFromReal_toReal (v : Word) : helperFromReal (helperToReal v : ℝ) = v := by
  have h : ((helperToReal v : Rat) : ℝ) * 2 ^ Config.fractionalBits = (v.signed : Int) := by
    simp [helperToReal]
  rw [helperFromReal_multiple h, helperNarrow_fits ⟨BitVec.le_toInt v, BitVec.toInt_lt⟩]
  exact BitVec.ofInt_toInt

/-- The two roundings of a quotient agree unless it is negative (43 R152). -/
theorem tdiv_eq_fdiv {n d : Int} (h : 0 ≤ n ∧ 0 ≤ d ∨ n ≤ 0 ∧ d ≤ 0) : n.tdiv d = n.fdiv d := by
  rcases h with ⟨hn, hd⟩ | ⟨hn, hd⟩
  · rw [Int.tdiv_eq_ediv_of_nonneg hn, Int.fdiv_eq_ediv_of_nonneg _ hd]
  · have hf : Int.fdiv n d = Int.fdiv (-n) (-d) := (Int.neg_fdiv_neg n d).symm
    rw [hf, ← Int.neg_tdiv_neg, Int.tdiv_eq_ediv_of_nonneg (by omega), Int.fdiv_eq_ediv_of_nonneg _ (by omega)]

/-- A quotient of operands of like sign is the floor, whatever the rounding parameter (43 R152). -/
theorem helperDiv_likeSigns {a b : Word} {c : Nat} (hb : b.signed ≠ 0) (hc : c ≤ 31)
    (h : 0 ≤ a.signed ∧ 0 ≤ b.signed ∨ a.signed ≤ 0 ∧ b.signed ≤ 0) :
    helperDiv a b c = some (helperNarrow (.div a b c) ((a.signed * 2 ^ c).fdiv b.signed)) := by
  have hp : (0 : Int) ≤ 2 ^ c := by positivity
  have hs : 0 ≤ a.signed * 2 ^ c ∧ 0 ≤ b.signed ∨ a.signed * 2 ^ c ≤ 0 ∧ b.signed ≤ 0 := by
    rcases h with ⟨ha, hb⟩ | ⟨ha, hb⟩
    · exact .inl ⟨mul_nonneg ha hp, hb⟩
    · exact .inr ⟨mul_nonpos_of_nonpos_of_nonneg ha hp, hb⟩
  simp [helperDiv, hb, Nat.not_lt.mpr hc, tdiv_eq_fdiv hs]

/-- Any other quotient is its floor or its truncation (43 R152). -/
theorem helperDiv_cases {a b : Word} {c : Nat} (hb : b.signed ≠ 0) (hc : c ≤ 31) :
    helperDiv a b c = some (helperNarrow (.div a b c) ((a.signed * 2 ^ c).fdiv b.signed)) ∨
    helperDiv a b c = some (helperNarrow (.div a b c) ((a.signed * 2 ^ c).tdiv b.signed)) := by
  cases h : Config.quotientTruncates (.div a b c) <;> simp [helperDiv, hb, Nat.not_lt.mpr hc, h]

end Sys2Proof.Machine
end

