-- ==== Sys2Proof/Laws/PerInstr.lean ====
section
/-!
SUPPORT. Facts about every command as syntax, one lemma per constructor.
-/

namespace Sys2Proof.Laws.Fields

/-- The three port fields of a command name the command again (30 R72). -/
def Statement (i : Instr) : Prop := Instr.ofFields i.op i.a i.b = i

theorem sincos (a b : Word) : Statement (.sincos a b) := rfl

theorem sin (a b : Word) : Statement (.sin a b) := rfl

theorem cos (a b : Word) : Statement (.cos a b) := rfl

theorem atan2 (a b : Word) : Statement (.atan2 a b) := rfl

theorem isqrt (a b : Word) : Statement (.isqrt a b) := rfl

theorem illegal5 (a b : Word) : Statement (.illegal5 a b) := rfl

theorem illegal6 (a b : Word) : Statement (.illegal6 a b) := rfl

theorem illegal7 (a b : Word) : Statement (.illegal7 a b) := rfl

end Sys2Proof.Laws.Fields
end

