-- ==== Sys2Proof/Laws/Step.lean ====
section
/-!
SUPPORT. What issuing a command and one step can do.
-/

namespace Sys2Proof.Machine

variable {s t : State} {op : BitVec 3} {a b : Word} {f : State → State}

theorem issue_ready (h : s.busy = false) : issue op a b s f = .next (f (s.latch op a b)) := by
  simp [issue, h]

theorem issue_turnedAway (h : s.busy = true) :
    issue op a b s f = clockEdge (Pins.present op a b) s := by
  simp [issue, h]

/-- If a command answers a next state, it ran on an idle block, or one edge passed on a busy one. -/
theorem issue_next_cases (h : issue op a b s f = .next t) :
    (s.busy = false ∧ t = f (s.latch op a b)) ∨
    (s.busy = true ∧ clockEdge (Pins.present op a b) s = .next t) := by
  unfold issue at h
  split at h
  · exact .inr ⟨‹_›, h⟩
  · cases h; exact .inl ⟨by simpa using ‹¬ s.busy = true›, rfl⟩

theorem step_nothingAsked (h : s.host = []) : step s = clockEdge Pins.idle s := by
  simp [step, nextTurn, h]

theorem step_edge {p : Pins} {rest : List HostAction} (h : s.host = .edge p :: rest) :
    step s = clockEdge p { s with host := rest } := by
  simp [step, nextTurn, h]

@[simp] theorem read_word (v r0 r1 : Word) : (HostOperand.word v).read r0 r1 = v := (rfl)
@[simp] theorem read_res0 (r0 r1 : Word) : HostOperand.res0.read r0 r1 = r0 := (rfl)
@[simp] theorem read_res1 (r0 r1 : Word) : HostOperand.res1.read r0 r1 = r1 := (rfl)

theorem presented_eq (s : State) (op : BitVec 3) (x y : HostOperand) :
    s.presented op x y = Instr.ofFields op (x.read s.r0 s.r1) (y.read s.r0 s.r1) := (rfl)

theorem step_commandHead {x y : HostOperand} {rest : List HostAction} (h : s.host = .command op x y :: rest) :
    step s = exec (s.presented op x y) (if s.busy then s else { s with host := rest }) := by
  simp [step, nextTurn, h]

/-! Each command on an idle block, as the update its meaning makes.  With the loop's value generalised (`generalize`)
the field lemmas of Laws/State.lean then read off every register. -/

theorem exec_sincos_ready (a b : Word) (h : s.busy = false) :
    exec (.sincos a b) s = .next ((s.latch 0#3 a b).deliverPair (sincosF s.sinTable a).1 (sincosF s.sinTable a).2) := by
  rw [exec, execSincos, issue_ready h, State.latch_sinTable]

theorem exec_sin_ready (a b : Word) (h : s.busy = false) :
    exec (.sin a b) s = .next ((s.latch 1#3 a b).deliver (sincosF s.sinTable a).1) := by
  rw [exec, execSin, issue_ready h, State.latch_sinTable]

theorem exec_cos_ready (a b : Word) (h : s.busy = false) :
    exec (.cos a b) s = .next ((s.latch 2#3 a b).deliver (sincosF s.sinTable a).2) := by
  rw [exec, execCos, issue_ready h, State.latch_sinTable]

theorem exec_atan2_ready (a b : Word) (h : s.busy = false) :
    exec (.atan2 a b) s = .next ((s.latch 3#3 a b).finishAtan2 (atanLoop s.atanTable (reduceStart a b) 13) (reduceQuadrant a b)) := by
  rw [exec, execAtan2, issue_ready h, State.latch_atanTable]

theorem exec_isqrt_ready (a b : Word) (h : s.busy = false) :
    exec (.isqrt a b) s = .next ((s.latch 4#3 a b).finishIsqrt (sqrtLoop (sqrtStart a) 16)) := by
  rw [exec, execIsqrt, issue_ready h]

theorem exec_illegal5_ready (a b : Word) (h : s.busy = false) :
    exec (.illegal5 a b) s = .next ((s.latch 5#3 a b).raiseIllegalOp) := by
  rw [exec, execIllegal5, issue_ready h]

theorem exec_illegal6_ready (a b : Word) (h : s.busy = false) :
    exec (.illegal6 a b) s = .next ((s.latch 6#3 a b).raiseIllegalOp) := by
  rw [exec, execIllegal6, issue_ready h]

theorem exec_illegal7_ready (a b : Word) (h : s.busy = false) :
    exec (.illegal7 a b) s = .next ((s.latch 7#3 a b).raiseIllegalOp) := by
  rw [exec, execIllegal7, issue_ready h]

/-- A command presented to a busy block is one clock edge (log 7). -/
theorem exec_turnedAway (i : Instr) (h : s.busy = true) :
    exec i s = clockEdge (Pins.present i.op i.a i.b) s := by
  cases i with
  | sincos a b => rw [exec, execSincos, issue_turnedAway h, Instr.op, Instr.a, Instr.b]
  | sin a b => rw [exec, execSin, issue_turnedAway h, Instr.op, Instr.a, Instr.b]
  | cos a b => rw [exec, execCos, issue_turnedAway h, Instr.op, Instr.a, Instr.b]
  | atan2 a b => rw [exec, execAtan2, issue_turnedAway h, Instr.op, Instr.a, Instr.b]
  | isqrt a b => rw [exec, execIsqrt, issue_turnedAway h, Instr.op, Instr.a, Instr.b]
  | illegal5 a b => rw [exec, execIllegal5, issue_turnedAway h, Instr.op, Instr.a, Instr.b]
  | illegal6 a b => rw [exec, execIllegal6, issue_turnedAway h, Instr.op, Instr.a, Instr.b]
  | illegal7 a b => rw [exec, execIllegal7, issue_turnedAway h, Instr.op, Instr.a, Instr.b]

/-- A command presented to an idle block completes; what every command does alike. -/
theorem exec_ready (i : Instr) (h : s.busy = false) :
    ∃ t, exec i s = .next t ∧ t.busy = false ∧ t.done = true ∧ t.op = i.op ∧ t.a = i.a ∧ t.b = i.b ∧
      t.sinTable = s.sinTable ∧ t.atanTable = s.atanTable ∧ t.host = s.host ∧ t.draws = s.draws := by
  cases i with
  | sincos a b => exact ⟨_, exec_sincos_ready a b h, by simp [Instr.op, Instr.a, Instr.b]⟩
  | sin a b => exact ⟨_, exec_sin_ready a b h, by simp [Instr.op, Instr.a, Instr.b]⟩
  | cos a b => exact ⟨_, exec_cos_ready a b h, by simp [Instr.op, Instr.a, Instr.b]⟩
  | atan2 a b =>
    rw [exec_atan2_ready a b h]
    generalize atanLoop s.atanTable (reduceStart a b) 13 = v
    exact ⟨_, rfl, by simp [Instr.op, Instr.a, Instr.b]⟩
  | isqrt a b =>
    rw [exec_isqrt_ready a b h]
    generalize sqrtLoop (sqrtStart a) 16 = v
    exact ⟨_, rfl, by simp [Instr.op, Instr.a, Instr.b]⟩
  | illegal5 a b => exact ⟨_, exec_illegal5_ready a b h, by simp [Instr.op, Instr.a, Instr.b]⟩
  | illegal6 a b => exact ⟨_, exec_illegal6_ready a b h, by simp [Instr.op, Instr.a, Instr.b]⟩
  | illegal7 a b => exact ⟨_, exec_illegal7_ready a b h, by simp [Instr.op, Instr.a, Instr.b]⟩

/-- If a command answers a next state, either the block was idle and the command completed, or one edge passed. -/
theorem exec_next_cases (i : Instr) (h : exec i s = .next t) :
    (s.busy = false ∧ t.busy = false ∧ t.done = true ∧ t.sinTable = s.sinTable ∧
      t.atanTable = s.atanTable ∧ t.host = s.host) ∨
    (s.busy = true ∧ clockEdge (Pins.present i.op i.a i.b) s = .next t) := by
  cases hb : s.busy with
  | true => exact .inr ⟨rfl, exec_turnedAway i hb ▸ h⟩
  | false =>
    obtain ⟨u, hu, h1, h2, -, -, -, h3, h4, h5, -⟩ := exec_ready i hb
    rw [hu] at h
    cases h
    exact .inl ⟨rfl, h1, h2, h3, h4, h5⟩

end Sys2Proof.Machine
end

