-- ==== Sys2Proof/Laws/Tables.lean ====
section
/-!
SUPPORT. The default tables meet the constraints the spec puts on every instance.
-/

namespace Sys2Proof.Machine

theorem sinTableDefault_toList :
    sinTableDefault.toList = sinRows0 ++ sinRows1 ++ sinRows2 ++ sinRows3 := by
  simp only [sinTableDefault, Vector.toList]

theorem sinRows_bounded : ∀ v ∈ sinTableDefault.toList, v.toNat ≤ 32767 := by
  have h : (sinTableDefault.toList.all fun v => decide (v.toNat ≤ 32767)) = true := by
    rw [sinTableDefault_toList]; decide +kernel
  simpa only [List.all_eq_true, decide_eq_true_eq] using h

theorem sinRows_rising : sinTableDefault.toList.IsChain (fun v w => v.toNat ≤ w.toNat) := by
  rw [sinTableDefault_toList]; decide +kernel

/-- The default sine table is an instance the spec allows (10 R34: "It meets rule R33 (a) to (d)"). -/
theorem sinTableDefault_ok : sinTableDefault.Ok := by
  refine ⟨fun k => sinRows_bounded _ ?_, fun k => ?_, by decide +kernel, by decide +kernel⟩
  · exact Vector.mem_toList_iff.mpr (Vector.getElem_mem k.isLt)
  · have h := (List.isChain_iff_getElem.mp sinRows_rising) k.val (by simp; omega)
    simpa only [Vector.getElem_toList] using h

/-- The default arctangent table is an instance the spec allows (10 R37). -/
theorem atanTableDefault_ok : atanTableDefault.Ok := by decide +kernel

end Sys2Proof.Machine
end

