-- ==== Sys2Proof/Tests/Slice0.lean ====
section
/-!
SUPPORT. The model's own tests: command words written out from 30 R70 and R72, one step per command with the results
the spec prints in 95, and for every statement with hypotheses a witness that meets them.
-/

namespace Sys2Proof.Tests

open Sys2Proof Sys2Proof.Machine

/-! Decoding: each word is `{op[66:64], a[63:32], b[31:0]}`, its first hex digit the operation code. -/

/-- V-S30 with `b` set (95). -/
theorem test_decode_sincos : decode 0x012345678DEADBEEF#67 = .sincos 0x12345678#32 0xDEADBEEF#32 := by decide
/-- P3 (95). -/
theorem test_decode_sin : decode 0x10000200000000000#67 = .sin 8192#32 0#32 := by decide
/-- P3 (95). -/
theorem test_decode_cos : decode 0x20000600000000000#67 = .cos 24576#32 0#32 := by decide
/-- P1 (95): `y` is the field `a`, `x` the field `b`. -/
theorem test_decode_atan2 : decode 0x300005A82000059F4#67 = .atan2 23170#32 23028#32 := by decide
/-- P2 (95). -/
theorem test_decode_isqrt : decode 0x4017D784000000000#67 = .isqrt 25000000#32 0#32 := by decide
/-- V-I1 (95). -/
theorem test_decode_illegal5 : decode 0x51111111122222222#67 = .illegal5 0x11111111#32 0x22222222#32 := by decide
/-- Bit by bit from 30 R70: `110`, then `a` = 1, then `b` = 2^31. -/
theorem test_decode_illegal6 : decode 0x60000000180000000#67 = .illegal6 1#32 0x80000000#32 := by decide
/-- Bit by bit from 30 R70: `111`, then `a` = 2^31, then `b` = 1. -/
theorem test_decode_illegal7 : decode 0x78000000000000001#67 = .illegal7 0x80000000#32 1#32 := by decide
/-- The encoder on the word P2 prints for `ATAN2 4000, 3000`. -/
theorem test_encode_atan2 : encode (.atan2 4000#32 3000#32) = 0x300000FA000000BB8#67 := by decide
/-- A number with a bit above the command port is rejected by name. -/
theorem test_number_too_wide : decodeNumber (2 ^ 67) = .error .widerThanCommandPort := by decide

/-! WellFormed.  Every command is well formed (30 R76); the one check there is, the written form, refuses a set
ignored field (30 R79). -/

theorem test_every_value_well_formed : (Instr.sincos 0xFFFFFFFF#32 0xDEADBEEF#32).wellFormed = true := by decide
theorem test_written_form_sincos : (Instr.sincos 1#32 0xDEADBEEF#32).canonical = false := by decide
theorem test_written_form_sin : (Instr.sin 1#32 1#32).canonical = false := by decide
theorem test_written_form_cos : (Instr.cos 1#32 0x80000000#32).canonical = false := by decide
theorem test_written_form_isqrt : (Instr.isqrt 1#32 2#32).canonical = false := by decide
theorem test_written_form_atan2 : (Instr.atan2 1#32 0xDEADBEEF#32).canonical = true := by decide

/-! One step.  `next o p`: `o` is a next state on which `p` holds. -/

def next (o : Host.Outcome State Fault Refusal) (p : State → Bool) : Bool :=
  match o with
  | .next t => p t
  | .fault _ => false
  | .refused _ => false

/-- The start state of V-I (95), with `ILL` set to see it cleared. -/
def started : State := { State.reset with r0 := 0x5A82#32, r1 := 0x59F4#32, ill := true }

/-- The result ports and the flags after a step. -/
def shows (o : Host.Outcome State Fault Refusal) (r0 r1 : Word) (ill : Bool) : Bool :=
  next o fun t => t.r0 == r0 && t.r1 == r1 && t.ill == ill && !t.busy && t.done

/-- V-S6. -/
theorem test_sincos_first_quadrant :
    shows (exec (.sincos 4096#32 0#32) started) 0x5A82#32 0x59F4#32 false = true := by decide +kernel
/-- V-S30. -/
theorem test_sincos_third_quadrant :
    shows (exec (.sincos 0x12345678#32 0xDEADBEEF#32) started) 0xFFFF8E06#32 0xFFFFC673#32 false = true := by
  decide +kernel
/-- V-S12. -/
theorem test_sin_second_quadrant :
    shows (exec (.sin 12288#32 0#32) started) 0x59F4#32 0x59F4#32 false = true := by decide +kernel
/-- V-S26: a negative angle in the fourth quadrant. -/
theorem test_sin_negative_angle :
    shows (exec (.sin 0xFFFFFFDF#32 0#32) started) 0xFFFFFF37#32 0x59F4#32 false = true := by decide +kernel
/-- V-S12. -/
theorem test_cos_second_quadrant :
    shows (exec (.cos 12288#32 0#32) started) 0xFFFFA57E#32 0x59F4#32 false = true := by decide +kernel
/-- V-S3: the skew of the cosine. -/
theorem test_cos_one_step :
    shows (exec (.cos 32#32 0#32) started) 0x7FFE#32 0x59F4#32 false = true := by decide +kernel
/-- V-A14: `-500 >> 3` rounds down. -/
theorem test_atan2_diagonal :
    shows (exec (.atan2 1000#32 1000#32) started) 4095#32 0x59F4#32 false = true := by decide +kernel
/-- V-A36: the operand that `neg32` leaves negative. -/
theorem test_atan2_least_operand :
    shows (exec (.atan2 0x80000000#32 5#32) started) 36705#32 0x59F4#32 false = true := by decide +kernel
/-- V-Q24: an unsigned comparison, just below a square. -/
theorem test_isqrt_below_square :
    shows (exec (.isqrt 0xFFFE0000#32 0#32) started) 65534#32 0x59F4#32 false = true := by decide +kernel
/-- The trace of `ISQRT 10` (95): the remainder 1 is left in `NUM`. -/
theorem test_isqrt_remainder :
    next (exec (.isqrt 10#32 0#32) started) (fun t => t.r0 == 3#32 && t.num == 1#32 && t.root == 3#32) = true := by
  decide +kernel
/-- V-I1. -/
theorem test_illegal5 : shows (exec (.illegal5 0x11111111#32 0x22222222#32) State.reset) 0#32 0#32 true = true := by
  decide +kernel
/-- V-I2. -/
theorem test_illegal6 : shows (exec (.illegal6 0#32 0#32) started) 0x5A82#32 0x59F4#32 true = true := by decide +kernel
/-- V-I3. -/
theorem test_illegal7 : shows (exec (.illegal7 0#32 0#32) started) 0x5A82#32 0x59F4#32 true = true := by decide +kernel

/-- `ISQRT 0xFFFFFFFF` right after its accept edge: P4, edge 3 (95). -/
def rooting : State := started.acceptStep 4#3 0xFFFFFFFF#32 0#32

/-- `ATAN2 3, 4` right after its accept edge: V-A22 (95). -/
def turning : State := started.acceptStep 3#3 3#32 4#32

/-- P4, edge 4 (95): the first iterate step of `ISQRT 0xFFFFFFFF`; the command presented meanwhile is not looked at. -/
theorem test_isqrt_iterates :
    next (clockEdge (Pins.present 1#3 7#32 7#32) rooting)
      (fun t => t.num == 3221225471#32 && t.root == 1073741824#32 && t.cnt == 1#5 && t.busy && !t.done &&
        t.op == 4#3 && t.r0 == 0x5A82#32) = true := by decide +kernel

/-- V-A22 (95): the row `i = 0` of the trace. -/
theorem test_atan2_iterates :
    next (clockEdge Pins.idle turning)
      (fun t => t.x == 7#32 && t.y == 0xFFFFFFFF#32 && t.ang == 0xFFFFF000#32 && t.cnt == 1#5 && t.busy) = true := by
  decide +kernel

/-- V-R3, V-R4: a reset wins over the command in flight and over the one presented with it. -/
theorem test_reset_wins :
    next (clockEdge ⟨true, true, 4#3, 16#32, 0#32⟩ rooting)
      (fun t => t.r0 == 0#32 && t.r1 == 0#32 && !t.ill && !t.busy && !t.done) = true := by decide +kernel

/-- The first step after reset runs the word placed: P2's `ISQRT 25000000`. -/
theorem test_first_step_runs_word :
    next (step (State.reset.withFetchWord 72 0x4017D784000000000)) (fun t => t.r0 == 5000#32) = true := by
  decide +kernel

/-- P1 (95): `ATAN2 R0, R1` after `SINCOS 4096`; the host copies both results into the command. -/
theorem test_operands_copied :
    shows (step { started with host := [(Line.atan2 .r0 .r1).transaction.action] }) 4109#32 0x59F4#32 false = true := by
  decide +kernel

/-- 43 R152: `7 / 2` is 3 under either rounding, and so is `-7 / -2`. -/
theorem test_div_like_signs :
    helperDiv 7#32 2#32 0 = some 3#32 ∧ helperDiv 0xFFFFFFF9#32 0xFFFFFFFE#32 0 = some 3#32 :=
  ⟨(helperDiv_likeSigns (by decide) (by decide) (by decide)).trans (congrArg some (helperNarrow_fits (by decide))),
    (helperDiv_likeSigns (by decide) (by decide) (by decide)).trans (congrArg some (helperNarrow_fits (by decide)))⟩

/-! Witnesses: for each statement with hypotheses, concrete values that meet them together. -/

/-- An edge without reset and without a command. -/
def quiet (n : Nat) : List Pins := List.replicate n Pins.idle

theorem quiet_noReset (n : Nat) : noReset (quiet n) := by
  intro p hp
  rw [(List.mem_replicate.mp hp).2]
  rfl

/-- `ATAN2 3, 4` after `n` iterate steps. -/
def turningAt (n : Nat) : State :=
  (turning.setRotation (atanLoop started.atanTable (reduceStart 3#32 4#32) n)).setCount (BitVec.ofNat 5 n)

/-- `ISQRT 0xFFFFFFFF` after `n` iterate steps. -/
def rootingAt (n : Nat) : State :=
  (rooting.setRootPair (sqrtLoop (sqrtStart 0xFFFFFFFF#32) n)).setCount (BitVec.ofNat 5 n)

theorem witness_tables : State.reset.TablesOk := ⟨sinTableDefault_ok, atanTableDefault_ok⟩

theorem turningAt_inv (n : Nat) (h : n ≤ 13) : (turningAt n).Inv := by
  have hc : (BitVec.ofNat 5 n).toNat = n := by rw [BitVec.toNat_ofNat]; omega
  refine ⟨fun _ => ?_, fun _ => rfl, witness_tables⟩
  show (BitVec.ofNat 5 n).toNat ≤ 13 ∧ reduceQuadrant 3#32 4#32 = reduceQuadrant 3#32 4#32 ∧
    atanLoop started.atanTable (reduceStart 3#32 4#32) n =
      atanLoop started.atanTable (reduceStart 3#32 4#32) (BitVec.ofNat 5 n).toNat
  rw [hc]
  exact ⟨h, rfl, rfl⟩

theorem rootingAt_inv (n : Nat) (h : n ≤ 16) : (rootingAt n).Inv := by
  have hc : (BitVec.ofNat 5 n).toNat = n := by rw [BitVec.toNat_ofNat]; omega
  refine ⟨fun _ => ?_, fun _ => rfl, witness_tables⟩
  show (BitVec.ofNat 5 n).toNat ≤ 16 ∧
    sqrtLoop (sqrtStart 0xFFFFFFFF#32) n = sqrtLoop (sqrtStart 0xFFFFFFFF#32) (BitVec.ofNat 5 n).toNat
  rw [hc]
  exact ⟨h, rfl⟩

/-- A command without a loop right after its accept edge. -/
def lookingAt (op : BitVec 3) : State := started.acceptStep op 4096#32 0#32

/-- `SINCOS 4096` right after its accept edge: P4, edge 1 (95). -/
def looking : State := lookingAt 0#3

theorem looking_inv : looking.Inv := ⟨fun _ => trivial, fun _ => rfl, witness_tables⟩

/-- A reserved command right after its accept edge. -/
def reserved : State := started.acceptStep 7#3 1#32 2#32

theorem reserved_inv : reserved.Inv := ⟨fun _ => trivial, fun _ => rfl, witness_tables⟩

theorem reset_inv : State.reset.Inv := ⟨fun h => (nomatch h), fun h => (nomatch h), witness_tables⟩

/-- DecodeFollowsCodeMap: a word on each side of the last legal code. -/
theorem witness_DecodeFollowsCodeMap :
    (decode 0x4FFFFFFFFFFFFFFFF#67).isLegal ∧ ¬ (decode 0x50000000000000000#67).isLegal := by decide

theorem witness_StepRunsThePresentedCommand :
    (∃ (s : State) (op : BitVec 3) (a b : HostOperand) (rest : List HostAction),
      s.host = .command op a b :: rest ∧ s.busy = false) ∧
    (∃ (s : State) (op : BitVec 3) (a b : HostOperand) (rest : List HostAction),
      s.host = .command op a b :: rest ∧ s.busy = true) ∧
    (∃ (nbits w : Nat) (i : Instr), decodeTableWord nbits w = some i) :=
  ⟨⟨{ State.reset with host := [.command 7#3 .res1 .res0] }, 7#3, .res1, .res0, [], rfl, rfl⟩,
    ⟨{ rooting with host := [.command 0#3 (.word 1#32) .res0] }, 0#3, .word 1#32, .res0, [], rfl, rfl⟩,
    ⟨67, 2 ^ 67 - 1, .illegal7 0xFFFFFFFF#32 0xFFFFFFFF#32, by decide⟩⟩

theorem witness_StepDrivesClockEdges :
    (∃ (s : State) (p : Pins) (rest : List HostAction), s.host = .edge p :: rest) ∧ ∃ s : State, s.host = [] :=
  ⟨⟨{ rooting with host := [.edge Pins.reset] }, Pins.reset, [], rfl⟩, ⟨State.reset, rfl⟩⟩

theorem witness_ResetStepFromAnyState :
    ∃ (s : State) (p : Pins), p.rst = true ∧ s.busy = true := ⟨rooting, ⟨true, true, 0#3, 1#32, 2#32⟩, rfl, rfl⟩

theorem witness_IdleEdgeOnlyClearsDone :
    ∃ (s : State) (p : Pins), p.rst = false ∧ s.busy = false ∧ p.cmdValid = false ∧ s.done = true :=
  ⟨{ started with done := true }, Pins.idle, rfl, rfl, rfl, rfl⟩

/-- The accept edge with an operation code of each kind: table, loop of each engine, reserved. -/
theorem witness_AcceptEdgeLatchesTheCommand :
    ∃ (s : State) (p q r z : Pins), s.busy = false ∧ (∀ v ∈ [p, q, r, z], v.rst = false ∧ v.cmdValid = true) ∧
      p.cmdOp = 0#3 ∧ q.cmdOp = 3#3 ∧ r.cmdOp = 4#3 ∧ z.cmdOp = 7#3 :=
  ⟨started, Pins.present 0#3 1#32 2#32, Pins.present 3#3 1#32 2#32, Pins.present 4#3 1#32 2#32,
    Pins.present 7#3 1#32 2#32, rfl, by decide, rfl, rfl, rfl, rfl⟩

theorem witness_SincosMicroSteps :
    ∃ (s : State) (op op' : BitVec 3) (p : Pins), op.toNat = 0 ∧ op'.toNat = 2 ∧ s.busy = false ∧ p.rst = false :=
  ⟨started, 0#3, 2#3, Pins.idle, rfl, rfl, rfl, rfl⟩

/-- An idle block, an iterate edge at the first and last counter value, the complete edge, and the longest run. -/
theorem witness_Atan2MicroSteps :
    started.busy = false ∧
    (∃ (s t : State) (p : Pins), p.rst = false ∧ s.busy = true ∧ s.op = 3#3 ∧ s.cnt.toNat = 0 ∧
      t.busy = true ∧ t.op = 3#3 ∧ t.cnt.toNat = 12) ∧
    (∃ (s : State) (p : Pins), p.rst = false ∧ s.busy = true ∧ s.op = 3#3 ∧ s.cnt.toNat = 13) ∧
    ∃ ps : List Pins, noReset ps ∧ ps.length = 13 :=
  ⟨rfl, ⟨turningAt 0, turningAt 12, Pins.idle, rfl, rfl, rfl, rfl, rfl, rfl, rfl⟩,
    ⟨turningAt 13, Pins.idle, rfl, rfl, rfl, rfl⟩, ⟨quiet 13, quiet_noReset 13, rfl⟩⟩

theorem witness_IsqrtMicroSteps :
    started.busy = false ∧
    (∃ (s t : State) (p : Pins), p.rst = false ∧ s.busy = true ∧ s.op = 4#3 ∧ s.cnt.toNat = 0 ∧
      t.busy = true ∧ t.op = 4#3 ∧ t.cnt.toNat = 15) ∧
    (∃ (s : State) (p : Pins), p.rst = false ∧ s.busy = true ∧ s.op = 4#3 ∧ s.cnt.toNat = 16) ∧
    ∃ ps : List Pins, noReset ps ∧ ps.length = 16 :=
  ⟨rfl, ⟨rootingAt 0, rootingAt 15, Pins.idle, rfl, rfl, rfl, rfl, rfl, rfl, rfl⟩,
    ⟨rootingAt 16, Pins.idle, rfl, rfl, rfl, rfl⟩, ⟨quiet 16, quiet_noReset 16, rfl⟩⟩

/-- Every operation code has a sequence of edges of its own length. -/
theorem witness_CommandEqualsItsClockEdges :
    ∃ s : State, s.busy = false ∧ ∀ op : BitVec 3, noReset (quiet (latency op)) ∧
      (quiet (latency op)).length = latency op :=
  ⟨started, rfl, fun _ => ⟨quiet_noReset _, List.length_replicate⟩⟩

theorem witness_SincosResult : State.reset.busy = false ∧ sinTableDefault.Ok := ⟨rfl, sinTableDefault_ok⟩

theorem witness_SinResult : ∃ s : State, s.busy = false ∧ s.ill = true := ⟨started, rfl, rfl⟩

theorem witness_CosResult : ∃ s : State, s.busy = false ∧ s.ill = true := ⟨started, rfl, rfl⟩

theorem witness_Atan2Result : ∃ (s : State) (n m : Nat), s.busy = false ∧ n < 13 ∧ m < 13 ∧ n = 0 ∧ m = 12 :=
  ⟨started, 0, 12, rfl, by decide, by decide, rfl, rfl⟩

theorem witness_IsqrtResult : ∃ (s : State) (j k : Nat), s.busy = false ∧ j ≤ 16 ∧ j = 16 ∧ k < 16 ∧ k = 15 :=
  ⟨started, 16, 15, rfl, by decide, rfl, by decide, rfl⟩

theorem witness_ReservedCodeResult :
    ∃ (s : State) (a b : Word) (i j k l : Instr) (op : BitVec 3) (p : Pins), i = .illegal5 a b ∧ j = .illegal6 a b ∧
      k = .illegal7 a b ∧ s.busy = false ∧ l.isLegal ∧ l.op = 4#3 ∧ 5 ≤ op.toNat ∧ op = 5#3 ∧ p.rst = false :=
  ⟨started, 1#32, 2#32, _, _, _, .isqrt 0#32 0#32, 5#3, Pins.idle, rfl, rfl, rfl, rfl, by decide, rfl, by decide, rfl, rfl⟩

theorem witness_EveryCommandRunsWhenReady : ∃ (_ : Instr) (s : State), s.busy = false :=
  ⟨.illegal7 0#32 0#32, started, rfl⟩

/-- Angles that differ in every bit the engine ignores. -/
theorem witness_IgnoredFieldsHaveNoEffect :
    ∃ (s : State) (a a' : Word), s.busy = false ∧ anglePosition a = anglePosition a' ∧ a ≠ a' :=
  ⟨started, 0x00001000#32, 0xFFFF901F#32, rfl, by decide, by decide⟩

/-- Both clauses about `R1`, from states that differ in everything but the tables. -/
theorem witness_ResultsDependOnOperandsOnly :
    ∃ (i j : Instr) (s s' : State), i.isLegal ∧ j.isLegal ∧ s.busy = false ∧ s'.busy = false ∧
      s.sinTable = s'.sinTable ∧ s.atanTable = s'.atanTable ∧ i.op = 0#3 ∧ j.op ≠ 0#3 ∧ s.r1 ≠ s'.r1 :=
  ⟨.sincos 1#32 2#32, .isqrt 1#32 2#32, State.reset, started, by decide, by decide, rfl, rfl, rfl, rfl, rfl,
    by decide, by decide⟩

theorem witness_BusyBlockTurnsCommandAway :
    ∃ (_ : Instr) (s : State) (p : Pins), s.busy = true ∧ p.rst = false :=
  ⟨.sincos 0#32 0#32, rooting, Pins.idle, rfl, rfl⟩

/-- An angle with the same position, and one with the complemented position. -/
theorem witness_SincosExactLaws :
    ∃ a b c : Word, anglePosition a = anglePosition b ∧ anglePosition c = ~~~anglePosition a ∧ a ≠ b :=
  ⟨33#32, 63#32, 32734#32, by decide, by decide, by decide⟩

/-- An allowed table and an angle of which both results are negative: V-S16 (95). -/
theorem witness_SincosDispatchTable :
    ∃ (t : SinTable) (theta : Word), t.Ok ∧ (sincosF t theta).1.toInt < 0 ∧ (sincosF t theta).2.toInt < 0 :=
  ⟨sinTableDefault, 0x5000#32, sinTableDefault_ok, by decide +kernel, by decide +kernel⟩

/-- An allowed table, and an angle in each quadrant. -/
theorem witness_SincosRangeAndSign :
    ∃ (t : SinTable) (a b c d : Word), t.Ok ∧ (angleQuadrant a).toNat = 0 ∧ (angleQuadrant b).toNat = 1 ∧
      (angleQuadrant c).toNat = 2 ∧ (angleQuadrant d).toNat = 3 :=
  ⟨sinTableDefault, 8191#32, 8192#32, 16384#32, 0xFFFFFFFF#32, sinTableDefault_ok, by decide, by decide, by decide,
    by decide⟩

/-- Each sign class at the values where they meet: zero, -1, and the word that `neg32` keeps. -/
theorem witness_Atan2ReduceCases :
    ∃ z m l : Word, 0 ≤ z.toInt ∧ z = 0#32 ∧ m.toInt < 0 ∧ m = 0xFFFFFFFF#32 ∧ l.toInt < 0 ∧ l = 0x80000000#32 :=
  ⟨0#32, 0xFFFFFFFF#32, 0x80000000#32, by decide, rfl, by decide, rfl, by decide, rfl⟩

theorem witness_Atan2RotationStep :
    ∃ (n : Nat) (v w : Rotation), n < 13 ∧ n = 12 ∧ v.y.toInt < 0 ∧ v.y = 0xFFFFFFFF#32 ∧ 0 ≤ w.y.toInt ∧ w.y = 0#32 :=
  ⟨12, ⟨7#32, 0xFFFFFFFF#32, 0#32⟩, ⟨7#32, 0#32, 0#32⟩, by decide, rfl, by decide, rfl, by decide, rfl⟩

theorem witness_Atan2SignPatterns :
    ∃ y y' x x' : Word, y ≠ 0x80000000#32 ∧ y' ≠ 0x80000000#32 ∧ x ≠ 0x80000000#32 ∧ x' ≠ 0x80000000#32 ∧
      x.toInt < 0 ∧ 0 ≤ x'.toInt ∧ y.toInt < 0 ∧ 0 ≤ y'.toInt :=
  ⟨0x80000001#32, 0#32, 0xFFFFFFFF#32, 0#32, by decide, by decide, by decide, by decide, by decide, by decide,
    by decide, by decide⟩

theorem witness_Atan2AccumulatorBound : ∃ y : Word, y ≠ 0x80000000#32 ∧ y.toInt < 0 := ⟨0x80000001#32, by decide, by decide⟩

/-- V-A29: the corner of the safe domain. -/
theorem witness_Atan2SafeDomainDoesNotWrap :
    ∃ y x : Word, |y.toInt| ≤ 2 ^ 29 ∧ |x.toInt| ≤ 2 ^ 29 ∧ y.toInt = -(2 ^ 29) ∧ x.toInt = 2 ^ 29 := by
  have hy : (0xE0000000#32).toInt = -(2 ^ 29) := by decide
  have hx : (0x20000000#32).toInt = 2 ^ 29 := by decide
  refine ⟨0xE0000000#32, 0x20000000#32, ?_, ?_, hy, hx⟩
  · rw [hy]; norm_num
  · rw [hx]; norm_num

/-- Both branches, at equality and one below it. -/
theorem witness_IsqrtRecurrenceStep :
    ∃ (j i : Nat) (v w : RootPair), j < 16 ∧ j = 15 ∧ i ≤ 30 ∧ i = 30 ∧ (v.root.toNat + 2 ^ i) % 2 ^ 32 = v.num.toNat ∧
      w.num.toNat + 1 = (w.root.toNat + 2 ^ i) % 2 ^ 32 :=
  ⟨15, 30, ⟨0x40000000#32, 0#32⟩, ⟨0x3FFFFFFF#32, 0#32⟩, by decide, rfl, by decide, rfl, by decide, by decide⟩

theorem witness_IsqrtLoopInvariant : ∃ j k : Nat, j < 16 ∧ k < 16 ∧ j = 0 ∧ k = 15 :=
  ⟨0, 15, by decide, by decide, rfl, rfl⟩

/-- The largest operand with its root, and two operands in order. -/
theorem witness_IsqrtIsFloorSquareRoot :
    ∃ (m n : Word) (r : Nat), r * r ≤ n.toNat ∧ r = 65535 ∧ m.toNat ≤ n.toNat ∧ m.toNat < n.toNat :=
  ⟨0xFFFE0000#32, 0xFFFE0001#32, 65535, by decide, rfl, by decide, by decide⟩

/-- One edge of each kind from one of four states: reset, idle and accept, iterate, complete. -/
theorem witness_FlagsChangeOnlyAsListed :
    (∃ (_ : Instr) (s : State) (v : Bool), s.busy = false ∧ s.ill ≠ v) ∧
    (∃ s t, clockEdge Pins.reset s = .next t) ∧
    (∃ s t p, clockEdge p s = .next t ∧ p.rst = false ∧ s.busy = false ∧ p.cmdValid = false) ∧
    (∃ s t p, clockEdge p s = .next t ∧ p.rst = false ∧ s.busy = false ∧ p.cmdValid = true) ∧
    (∃ s t, clockEdge Pins.idle s = .next t ∧ s.busy = true ∧ s.cnt.toNat < iterations s.op) ∧
    (∃ s t, clockEdge Pins.idle s = .next t ∧ s.busy = true ∧ ¬ s.cnt.toNat < iterations s.op ∧ 5 ≤ s.op.toNat) ∧
    (∃ s t, clockEdge Pins.idle s = .next t ∧ s.busy = true ∧ ¬ s.cnt.toNat < iterations s.op ∧ s.op.toNat = 4) :=
  ⟨⟨.cos 0#32 0#32, started, false, rfl, by decide⟩, ⟨rooting, _, clockEdge_reset rfl⟩,
    ⟨started, _, Pins.idle, clockEdge_idle rfl rfl rfl, rfl, rfl, rfl⟩,
    ⟨started, _, Pins.present 0#3 0#32 0#32, clockEdge_accept rfl rfl rfl, rfl, rfl, rfl⟩,
    ⟨rooting, _, clockEdge_iterate rfl rfl (by decide), rfl, by decide⟩,
    ⟨reserved, _, clockEdge_complete rfl rfl (.inl rfl), rfl, by decide, by decide⟩,
    ⟨rootingAt 16, _, clockEdge_complete rfl rfl (.inr rfl), rfl, by decide, rfl⟩⟩

/-- The complete step of each legal command, and an edge of each kind that writes no result. -/
theorem witness_ResultsWrittenOnlyAsListed :
    (∃ s t, clockEdge Pins.reset s = .next t ∧ s.r0 ≠ 0#32) ∧
    (∀ s ∈ [looking, lookingAt 1#3, lookingAt 2#3, turningAt 13, rootingAt 16], s.busy = true ∧
      ¬ s.cnt.toNat < iterations s.op ∧ s.op.toNat ≤ 4 ∧ ∃ t, clockEdge Pins.idle s = .next t) ∧
    (∃ s t, clockEdge Pins.idle s = .next t ∧ s.busy = false) ∧
    (∃ s t, clockEdge Pins.idle s = .next t ∧ s.busy = true ∧ s.cnt.toNat < iterations s.op) ∧
    ∃ s t, clockEdge Pins.idle s = .next t ∧ s.busy = true ∧ 5 ≤ s.op.toNat := by
  refine ⟨⟨rooting, _, clockEdge_reset rfl, by decide⟩, ?_,
    ⟨started, _, clockEdge_idle rfl rfl rfl, rfl⟩,
    ⟨rooting, _, clockEdge_iterate rfl rfl (by decide), rfl, by decide⟩,
    ⟨reserved, _, clockEdge_complete rfl rfl (.inl rfl), rfl, by decide⟩⟩
  intro s hs
  simp only [List.mem_cons, List.not_mem_nil, or_false] at hs
  rcases hs with rfl | rfl | rfl | rfl | rfl
  · exact ⟨rfl, by decide, by decide, _, clockEdge_complete rfl rfl (.inl rfl)⟩
  · exact ⟨rfl, by decide, by decide, _, clockEdge_complete rfl rfl (.inl rfl)⟩
  · exact ⟨rfl, by decide, by decide, _, clockEdge_complete rfl rfl (.inl rfl)⟩
  · exact ⟨rfl, by decide, by decide, _, clockEdge_complete rfl rfl (.inr rfl)⟩
  · exact ⟨rfl, by decide, by decide, _, clockEdge_complete rfl rfl (.inr rfl)⟩

theorem witness_OutputsAreRegisters :
    ∃ s t, clockEdge Pins.idle s = .next t ∧ Pins.idle.rst = false ∧ s.busy = true ∧
      ¬ s.cnt.toNat < iterations s.op :=
  ⟨looking, _, clockEdge_complete rfl rfl (.inl rfl), rfl, rfl, by decide⟩

theorem witness_PortsKeepOldResultsWhileBusy :
    ∃ s t, clockEdge Pins.idle s = .next t ∧ Pins.idle.rst = false ∧ t.busy = true :=
  ⟨rooting, _, clockEdge_iterate rfl rfl (by decide), rfl, rfl⟩

theorem witness_StatusWordBits : ∃ s t, Pins.reset.rst = true ∧ clockEdge Pins.reset s = .next t ∧ s.status ≠ 0#32 :=
  ⟨rooting, _, rfl, clockEdge_reset rfl, by decide +kernel⟩

theorem witness_TablesNeverWritten : ∃ s t, step s = .next t ∧ s.busy = true :=
  ⟨rooting, _, (step_nothingAsked rfl).trans (clockEdge_iterate rfl rfl (by decide)), rfl⟩

theorem witness_StepKeepsInvariant :
    (∃ s t, s.Inv ∧ step s = .next t ∧ s.busy = true ∧ s.op = 3#3) ∧
    (∃ s t, s.Inv ∧ step s = .next t ∧ s.busy = true ∧ s.op = 4#3) ∧
    ∃ s t, s.Inv ∧ step s = .next t ∧ s.busy = false :=
  ⟨⟨turningAt 12, _, turningAt_inv 12 (by decide),
      (step_nothingAsked rfl).trans (clockEdge_iterate rfl rfl (by decide)), rfl, rfl⟩,
    ⟨rootingAt 16, _, rootingAt_inv 16 (by decide),
      (step_nothingAsked rfl).trans (clockEdge_complete rfl rfl (.inr rfl)), rfl, rfl⟩,
    ⟨State.reset, _, reset_inv, (step_nothingAsked rfl).trans (clockEdge_idle rfl rfl rfl), rfl⟩⟩

theorem witness_InvariantStepAnswersNext : ∃ s : State, s.Inv ∧ s.busy = true ∧ s.cnt.toNat = 13 :=
  ⟨turningAt 13, turningAt_inv 13 (by decide), rfl, rfl⟩

/-- A state that no run reaches and an edge stops on, and its neighbour that it does not stop on. -/
theorem witness_FaultExactlyBeyondTheLoop :
    (∃ (p : Pins) (s : State), p.rst = false ∧ s.busy = true ∧ iterations s.op ≠ 0 ∧
      iterations s.op < s.cnt.toNat ∧ s.cnt.toNat = 14) ∧
    ∃ (p : Pins) (s : State),
      ¬ (p.rst = false ∧ s.busy = true ∧ iterations s.op ≠ 0 ∧ iterations s.op < s.cnt.toNat) ∧ s.cnt.toNat = 13 :=
  ⟨⟨Pins.idle, turning.setCount 14#5, rfl, rfl, by decide, by decide, rfl⟩,
    ⟨Pins.idle, turning.setCount 13#5, by decide, rfl⟩⟩

/-- A command in flight of each kind: just accepted, in the middle, at its last edge, and without a loop. -/
theorem witness_EveryCommandInFlightCompletes :
    ∀ s ∈ [turningAt 0, turningAt 13, rootingAt 0, rootingAt 5, rootingAt 16, looking, reserved],
      s.Inv ∧ s.busy = true ∧ ∃ ps, noReset ps ∧
        ps.length = (if iterations s.op = 0 then 1 else latency s.op - s.cnt.toNat) := by
  intro s hs
  refine ⟨?_, ?_, quiet _, quiet_noReset _, List.length_replicate⟩ <;>
    simp only [List.mem_cons, List.not_mem_nil, or_false] at hs <;>
    rcases hs with rfl | rfl | rfl | rfl | rfl | rfl | rfl
  · exact turningAt_inv 0 (by decide)
  · exact turningAt_inv 13 (by decide)
  · exact rootingAt_inv 0 (by decide)
  · exact rootingAt_inv 5 (by decide)
  · exact rootingAt_inv 16 (by decide)
  · exact looking_inv
  · exact reserved_inv
  all_goals rfl

/-- A host with a command, a reset and a command with copied operands to do, and one with nothing. -/
theorem witness_HostRunFoldsTransactions :
    (∃ (ts : List Transaction) (s : State), s.busy = false ∧ s.host = ts.map Transaction.action ∧ ts.length = 3) ∧
    ∃ (ts : List Transaction) (s : State), s.busy = false ∧ s.host = ts.map Transaction.action ∧ ts.length = 0 :=
  ⟨⟨[.command 0#3 (.word 4096#32) (.word 0#32), .reset, .command 3#3 .res0 .res1],
      { State.reset with
        host := [.command 0#3 (.word 4096#32) (.word 0#32), .edge Pins.reset, .command 3#3 .res0 .res1] },
      rfl, rfl, rfl⟩,
    ⟨[], State.reset, rfl, rfl, rfl⟩⟩

/-- Both signs, with zero counted as positive, and bounds that meet. -/
theorem witness_ScalarHelpersSelect :
    ∃ (a b : Word) (hi lo : Int), a.toInt < 0 ∧ 0 ≤ b.toInt ∧ b = 0#32 ∧ lo ≤ hi ∧ lo = hi :=
  ⟨0xFFFFFFFF#32, 0#32, 5, 5, by decide, by decide, rfl, by decide, rfl⟩

end Sys2Proof.Tests
end

/-!
SUPPORT. A whole command edge by edge: the state after each iterate step, and the run of edges that ends in the
command's complete step (00 R15; 70 R183, R186).
-/

namespace Sys2Proof.Machine

variable {s t : State} {p : Pins} {ps qs : List Pins} {op : BitVec 3} {a b : Word}

/-! Runs of edges. -/

theorem noReset_cons : noReset (p :: ps) ↔ p.rst = false ∧ noReset ps := List.forall_mem_cons

theorem noReset_append : noReset (ps ++ qs) ↔ noReset ps ∧ noReset qs := List.forall_mem_append

theorem clockEdges_cons (h : clockEdge p s = .next t) : clockEdges (p :: ps) s = clockEdges ps t := by
  rw [clockEdges, h]

theorem clockEdges_append (h : clockEdges ps s = .next t) : clockEdges (ps ++ qs) s = clockEdges qs t := by
  induction ps generalizing s with
  | nil => cases h; rfl
  | cons p ps ih =>
    rw [List.cons_append, clockEdges]
    rw [clockEdges] at h
    cases hp : clockEdge p s with
    | next u => rw [hp] at h; exact ih h
    | fault r => rw [hp] at h; cases h
    | refused r => rw [hp] at h; cases h

/-- When every edge without reset moves `f n` to `f (n + 1)` below `N`, such edges walk along `f` up to `N`. -/
theorem clockEdges_along {f : Nat → State} {N : Nat}
    (hstep : ∀ n < N, ∀ p : Pins, p.rst = false → clockEdge p (f n) = .next (f (n + 1))) {k : Nat}
    (hr : noReset ps) (hk : k + ps.length ≤ N) : clockEdges ps (f k) = .next (f (k + ps.length)) := by
  induction ps generalizing k with
  | nil => rfl
  | cons p ps ih =>
    obtain ⟨hp, hps⟩ := noReset_cons.mp hr
    rw [List.length_cons] at hk ⊢
    rw [clockEdges_cons (hstep k (by omega) p hp), ih hps (by omega), Nat.add_assoc, Nat.add_comm 1]

/-- A command on an idle block whose accept step is the start of such a walk: its `N(OP)` iterate edges go along `f`,
and the edge after them gives what the last state's edge gives (70 R183, R186). -/
theorem clockEdges_command {f : Nat → State} (hb : s.busy = false) (hacc : s.acceptStep op a b = f 0)
    (hstep : ∀ n < iterations op, ∀ p : Pins, p.rst = false → clockEdge p (f n) = .next (f (n + 1)))
    (hlast : ∀ p : Pins, p.rst = false → clockEdge p (f (iterations op)) = .next t)
    (hr : noReset ps) (hl : ps.length = latency op) :
    clockEdges (Pins.present op a b :: ps) s = .next t := by
  have haccept : clockEdge (Pins.present op a b) s = .next (f 0) := hacc ▸ clockEdge_accept rfl hb rfl
  obtain rfl | ⟨qs, p, rfl⟩ := List.eq_nil_or_concat' ps
  · exact absurd hl (Nat.succ_ne_zero _).symm
  · obtain ⟨hqs, hp⟩ := noReset_append.mp hr
    have hlen : qs.length = iterations op := by simpa [latency] using hl
    have hwalk : clockEdges qs (f 0) = .next (f (iterations op)) := by
      rw [clockEdges_along hstep hqs (by omega), Nat.zero_add, hlen]
    rw [clockEdges_cons haccept, clockEdges_append hwalk, clockEdges_cons (hlast p (noReset_cons.mp hp).1), clockEdges]

/-! A command without a loop: the accept step, then the complete step (70 R183). -/

theorem latched_latch : (s.latch op a b).latched = Instr.ofFields op a b := (rfl)

theorem clockEdge_noLoop (h : iterations op = 0) (hp : p.rst = false) :
    clockEdge p (s.latch op a b) = .next (s.latch op a b).completeStep :=
  clockEdge_complete hp (State.latch_busy ..) (.inl h)

theorem clockEdges_noLoop (hb : s.busy = false) (h : iterations op = 0) (hr : noReset ps)
    (hl : ps.length = latency op) :
    clockEdges (Pins.present op a b :: ps) s = .next (s.latch op a b).completeStep :=
  clockEdges_command (f := fun _ => s.latch op a b) hb (acceptStep_noLoop a b h)
    (fun _ hn => absurd hn (by omega)) (fun _ => clockEdge_noLoop h) hr hl

theorem exec_noLoop_ready (hb : s.busy = false) (h : iterations op = 0) :
    exec (Instr.ofFields op a b) s = .next (s.latch op a b).completeStep := by
  rw [State.completeStep, latched_latch]
  rcases op_cases op with rfl | rfl | rfl | rfl | rfl | rfl | rfl | rfl
  · exact exec_sincos_ready a b hb
  · exact exec_sin_ready a b hb
  · exact exec_cos_ready a b hb
  · exact absurd h (by decide)
  · exact absurd h (by decide)
  · exact exec_illegal5_ready a b hb
  · exact exec_illegal6_ready a b hb
  · exact exec_illegal7_ready a b hb

/-! `ATAN2` in flight (41 R123). -/

/-- `ATAN2` accepted on `s`, after `n` iterate steps. -/
def State.atan2After (s : State) (a b : Word) (n : Nat) : State :=
  (((s.latch 3#3 a b).setRotation (atanLoop s.atanTable (reduceStart a b) n)).setQuadrant
    (reduceQuadrant a b)).setCount (BitVec.ofNat 5 n)

theorem acceptStep_eq_atan2After : s.acceptStep 3#3 a b = s.atan2After a b 0 := by
  rw [acceptStep_atan2, State.atan2After, atanLoop_zero]

@[simp] theorem State.atan2After_busy (n : Nat) : (s.atan2After a b n).busy = true := (rfl)
@[simp] theorem State.atan2After_op (n : Nat) : (s.atan2After a b n).op = 3#3 := (rfl)
@[simp] theorem State.atan2After_atanTable (n : Nat) : (s.atan2After a b n).atanTable = s.atanTable := (rfl)
@[simp] theorem State.atan2After_quad (n : Nat) : (s.atan2After a b n).quad = reduceQuadrant a b := (rfl)
@[simp] theorem State.atan2After_cnt (n : Nat) : (s.atan2After a b n).cnt = BitVec.ofNat 5 n := (rfl)
@[simp] theorem State.atan2After_rotation (n : Nat) :
    (s.atan2After a b n).rotation = atanLoop s.atanTable (reduceStart a b) n := (rfl)

theorem State.atan2After_cnt_toNat {n : Nat} (h : n ≤ 13) : (s.atan2After a b n).cnt.toNat = n := by
  rw [State.atan2After_cnt, BitVec.toNat_ofNat]; omega

theorem iterateStep_atan2After {n : Nat} (h : n < 13) :
    (s.atan2After a b n).iterateStep = s.atan2After a b (n + 1) := by
  have hcnt : (s.atan2After a b n).cnt.toNat = n := State.atan2After_cnt_toNat h.le
  have hbody : atanStep s.atanTable ⟨(s.atan2After a b n).cnt.toNat, by omega⟩
      (atanLoop s.atanTable (reduceStart a b) n) = atanLoop s.atanTable (reduceStart a b) (n + 1) := by
    rw [atanLoop_succ _ _ h]; congr
  rw [iterateStep_atan2 (State.atan2After_op n) (by omega), State.atan2After_atanTable, State.atan2After_rotation,
    hbody, State.atan2After_cnt, ← BitVec.ofNat_add, State.atan2After, State.atan2After]
  generalize atanLoop s.atanTable (reduceStart a b) (n + 1) = v
  rfl

theorem clockEdge_atan2After {n : Nat} (h : n < 13) (hp : p.rst = false) :
    clockEdge p (s.atan2After a b n) = .next (s.atan2After a b (n + 1)) := by
  have hcnt : (s.atan2After a b n).cnt.toNat < 13 := (State.atan2After_cnt_toNat h.le).trans_lt h
  rw [clockEdge_iterate hp (State.atan2After_busy n) hcnt, iterateStep_atan2After h]

theorem completeStep_atan2After : (s.atan2After a b 13).completeStep =
    (s.latch 3#3 a b).finishAtan2 (atanLoop s.atanTable (reduceStart a b) 13) (reduceQuadrant a b) := by
  rw [completeStep_atan2 (State.atan2After_op 13), State.atan2After_quad, State.atan2After, State.finishAtan2,
    State.setCount_ang, State.setQuadrant_ang, State.setRotation_ang]

theorem clockEdge_atan2After_last (hp : p.rst = false) : clockEdge p (s.atan2After a b 13) =
    .next ((s.latch 3#3 a b).finishAtan2 (atanLoop s.atanTable (reduceStart a b) 13) (reduceQuadrant a b)) := by
  have hcnt : (s.atan2After a b 13).cnt.toNat = 13 := State.atan2After_cnt_toNat le_rfl
  rw [clockEdge_complete hp (State.atan2After_busy 13) (.inr hcnt), completeStep_atan2After]

theorem clockEdges_atan2 (hb : s.busy = false) (hr : noReset ps) (hl : ps.length = latency 3#3) :
    clockEdges (Pins.present 3#3 a b :: ps) s =
      .next ((s.latch 3#3 a b).finishAtan2 (atanLoop s.atanTable (reduceStart a b) 13) (reduceQuadrant a b)) :=
  clockEdges_command hb acceptStep_eq_atan2After (fun _ hn _ => clockEdge_atan2After hn)
    (fun _ => clockEdge_atan2After_last) hr hl

/-! `ISQRT` in flight (42 R137). -/

/-- `ISQRT` accepted on `s`, after `n` iterate steps. -/
def State.isqrtAfter (s : State) (a b : Word) (n : Nat) : State :=
  ((s.latch 4#3 a b).setRootPair (sqrtLoop (sqrtStart a) n)).setCount (BitVec.ofNat 5 n)

theorem acceptStep_eq_isqrtAfter : s.acceptStep 4#3 a b = s.isqrtAfter a b 0 := by
  rw [acceptStep_isqrt, State.isqrtAfter, sqrtLoop_zero]

@[simp] theorem State.isqrtAfter_busy (n : Nat) : (s.isqrtAfter a b n).busy = true := (rfl)
@[simp] theorem State.isqrtAfter_op (n : Nat) : (s.isqrtAfter a b n).op = 4#3 := (rfl)
@[simp] theorem State.isqrtAfter_cnt (n : Nat) : (s.isqrtAfter a b n).cnt = BitVec.ofNat 5 n := (rfl)
@[simp] theorem State.isqrtAfter_rootPair (n : Nat) : (s.isqrtAfter a b n).rootPair = sqrtLoop (sqrtStart a) n := (rfl)

theorem State.isqrtAfter_cnt_toNat {n : Nat} (h : n ≤ 16) : (s.isqrtAfter a b n).cnt.toNat = n := by
  rw [State.isqrtAfter_cnt, BitVec.toNat_ofNat]; omega

theorem iterateStep_isqrtAfter {n : Nat} (h : n < 16) :
    (s.isqrtAfter a b n).iterateStep = s.isqrtAfter a b (n + 1) := by
  rw [iterateStep_isqrt (State.isqrtAfter_op n), State.isqrtAfter_cnt_toNat h.le, State.isqrtAfter_rootPair,
    ← sqrtLoop_succ, State.isqrtAfter_cnt, ← BitVec.ofNat_add, State.isqrtAfter, State.isqrtAfter]
  generalize sqrtLoop (sqrtStart a) (n + 1) = v
  rfl

theorem clockEdge_isqrtAfter {n : Nat} (h : n < 16) (hp : p.rst = false) :
    clockEdge p (s.isqrtAfter a b n) = .next (s.isqrtAfter a b (n + 1)) := by
  have hcnt : (s.isqrtAfter a b n).cnt.toNat < 16 := (State.isqrtAfter_cnt_toNat h.le).trans_lt h
  rw [clockEdge_iterate hp (State.isqrtAfter_busy n) hcnt, iterateStep_isqrtAfter h]

theorem completeStep_isqrtAfter :
    (s.isqrtAfter a b 16).completeStep = (s.latch 4#3 a b).finishIsqrt (sqrtLoop (sqrtStart a) 16) := by
  rw [completeStep_isqrt (State.isqrtAfter_op 16), State.isqrtAfter, State.finishIsqrt, result_eq, State.setCount_root,
    State.setRootPair_root]

theorem clockEdge_isqrtAfter_last (hp : p.rst = false) : clockEdge p (s.isqrtAfter a b 16) =
    .next ((s.latch 4#3 a b).finishIsqrt (sqrtLoop (sqrtStart a) 16)) := by
  have hcnt : (s.isqrtAfter a b 16).cnt.toNat = 16 := State.isqrtAfter_cnt_toNat le_rfl
  rw [clockEdge_complete hp (State.isqrtAfter_busy 16) (.inr hcnt), completeStep_isqrtAfter]

theorem clockEdges_isqrt (hb : s.busy = false) (hr : noReset ps) (hl : ps.length = latency 4#3) :
    clockEdges (Pins.present 4#3 a b :: ps) s =
      .next ((s.latch 4#3 a b).finishIsqrt (sqrtLoop (sqrtStart a) 16)) :=
  clockEdges_command hb acceptStep_eq_isqrtAfter (fun _ hn _ => clockEdge_isqrtAfter hn)
    (fun _ => clockEdge_isqrtAfter_last) hr hl

/-- Settles O14: the two iterative commands by the walk through their loops, the six others in two edges. -/
theorem commandEqualsItsClockEdges : Obligations.CommandEqualsItsClockEdges := by
  unfold Obligations.CommandEqualsItsClockEdges
  intro s op a b ps hb hr hl
  obtain ⟨rfl, -⟩ | ⟨rfl, -⟩ | ⟨-, -, h0⟩ := iterations_cases op
  · exact ⟨_, exec_atan2_ready a b hb, clockEdges_atan2 hb hr hl⟩
  · exact ⟨_, exec_isqrt_ready a b hb, clockEdges_isqrt hb hr hl⟩
  · exact ⟨_, exec_noLoop_ready hb h0, clockEdges_noLoop hb h0 hr hl⟩

end Sys2Proof.Machine

/-!
SUPPORT. What the registers a host sees hold after each kind of edge, and the statements about single registers over
every edge (10 R22, R25, R26, R29, R38, R39).
-/

namespace Sys2Proof.Machine

variable {s t : State} {p : Pins}

/-! The state after reset. -/

/-- Settles O7: each value is the one written in `State.reset`. -/
theorem resetStateValues : Obligations.ResetStateValues :=
  ⟨rfl, rfl, rfl, rfl, rfl, rfl, rfl⟩

/-- Settles O47: `BUSY` is 0, so nothing is in flight; the default tables are allowed ones. -/
theorem invariantAtReset : Obligations.InvariantAtReset :=
  ⟨fun hbusy => (nomatch hbusy), fun hbusy => (nomatch hbusy), sinTableDefault_ok, atanTableDefault_ok⟩

/-! The tables. -/

theorem exec_keeps_tables {i : Instr} (h : exec i s = .next t) :
    t.sinTable = s.sinTable ∧ t.atanTable = s.atanTable := by
  obtain ⟨-, -, -, hsin, hatan, -⟩ | ⟨-, hedge⟩ := exec_next_cases i h
  · exact ⟨hsin, hatan⟩
  · obtain ⟨hsin, hatan, -⟩ := clockEdge_keeps_tables hedge
    exact ⟨hsin, hatan⟩

/-- Settles O46: a step is one clock edge or one command, by what the host asks for. -/
theorem tablesNeverWritten : Obligations.TablesNeverWritten := by
  unfold Obligations.TablesNeverWritten
  intro s t h
  cases hhost : s.host with
  | nil =>
    rw [step_nothingAsked hhost] at h
    obtain ⟨hsin, hatan, -⟩ := clockEdge_keeps_tables h
    exact ⟨hsin, hatan⟩
  | cons action rest =>
    cases action with
    | edge p =>
      rw [step_edge hhost] at h
      obtain ⟨hsin, hatan, -⟩ := clockEdge_keeps_tables h
      exact ⟨hsin, hatan⟩
    | command op a b =>
      rw [step_commandHead hhost] at h
      cases hbusy : s.busy with
      | true => simpa [hbusy] using exec_keeps_tables h
      | false => simpa [hbusy] using exec_keeps_tables h

/-! The status word (10 R26). -/

theorem bitWord_getLsbD (b : Bool) (i : Nat) : (bitWord b).getLsbD i = (decide (i = 0) && b) := by
  cases b <;> simp [bitWord, BitVec.getLsbD_one]

theorem status_getLsbD (s : State) (i : Nat) :
    s.status.getLsbD i = (decide (i = 0) && s.busy || decide (i = 1) && s.ill) := by
  rw [State.status, BitVec.getLsbD_or, BitVec.getLsbD_shiftLeft, bitWord_getLsbD, bitWord_getLsbD]
  match i with
  | 0 => simp
  | 1 => simp
  | i + 2 => simp

/-- Settles O44: the bits one by one; a reset step clears `BUSY` and `ILL`. -/
theorem statusWordBits : Obligations.StatusWordBits := by
  unfold Obligations.StatusWordBits
  refine ⟨fun s => ⟨?_, ?_, fun i hi => ?_⟩, fun p s t hr h => ?_⟩
  · rw [status_getLsbD]; simp
  · rw [status_getLsbD]; simp
  · rw [status_getLsbD]; simp [show i ≠ 0 by omega, show i ≠ 1 by omega]
  · rw [clockEdge_reset hr] at h
    cases h
    simp [State.status, bitWord]

/-! The complete step by the operation code in the latches (70 R183). -/

theorem completeStep_sincos (h : s.op = 0#3) :
    s.completeStep = s.deliverPair (sincosF s.sinTable s.a).1 (sincosF s.sinTable s.a).2 := by
  rw [State.completeStep, State.latched, h]; rfl

theorem completeStep_sin (h : s.op = 1#3) : s.completeStep = s.deliver (sincosF s.sinTable s.a).1 := by
  rw [State.completeStep, State.latched, h]; rfl

theorem completeStep_cos (h : s.op = 2#3) : s.completeStep = s.deliver (sincosF s.sinTable s.a).2 := by
  rw [State.completeStep, State.latched, h]; rfl

theorem op_reserved {o : BitVec 3} (h : 5 ≤ o.toNat) : o = 5#3 ∨ o = 6#3 ∨ o = 7#3 := by
  revert o; decide

theorem completeStep_reserved (h : 5 ≤ s.op.toNat) : s.completeStep = s.raiseIllegalOp := by
  rw [State.completeStep, State.latched]
  obtain ho | ho | ho := op_reserved h <;> rw [ho] <;> rfl

/-- `ILL` after a complete step: the command was reserved (10 R25). -/
theorem completeStep_ill : s.completeStep.ill = true ↔ 5 ≤ s.op.toNat := by
  rcases op_cases s.op with ho | ho | ho | ho | ho | ho | ho | ho
  · simp [completeStep_sincos ho, ho]
  · simp [completeStep_sin ho, ho]
  · simp [completeStep_cos ho, ho]
  · simp [completeStep_atan2 ho, ho]
  · simp [completeStep_isqrt ho, ho]
  all_goals simp [completeStep_reserved (s := s) (by simp [ho]), ho]

/-- `SINCOS` alone writes `R1` (10 R22). -/
theorem completeStep_r1 (h : s.op ≠ 0#3) : s.completeStep.r1 = s.r1 := by
  rcases op_cases s.op with ho | ho | ho | ho | ho | ho | ho | ho
  · exact absurd ho h
  · simp [completeStep_sin ho]
  · simp [completeStep_cos ho]
  · simp [completeStep_atan2 ho]
  · simp [completeStep_isqrt ho]
  all_goals simp [completeStep_reserved (s := s) (by simp [ho])]

/-! What an edge of each kind does to `BUSY`, `ILL`, `DONE`, `R0` and `R1`. -/

theorem iterateStep_done (h : s.cnt.toNat < iterations s.op) : s.iterateStep.done = false := by
  obtain ⟨ho, hn⟩ | ⟨ho, -⟩ | ⟨-, -, hn⟩ := iterations_cases s.op
  · rw [iterateStep_atan2 ho (hn ▸ h), State.clearDone_done]
  · rw [iterateStep_isqrt ho, State.clearDone_done]
  · omega

/-- An edge on an idle block: idle or accept, as `cmd_valid` says. -/
theorem clockEdge_onIdle (h : clockEdge p s = .next t) (hr : p.rst = false) (hb : s.busy = false) :
    t.busy = p.cmdValid ∧ t.done = false ∧ SameResults s t := by
  cases hv : p.cmdValid with
  | false =>
    rw [clockEdge_idle hr hb hv] at h
    cases h
    simp [SameResults, hb]
  | true =>
    rw [clockEdge_accept hr hb hv] at h
    cases h
    obtain ⟨hr0, hr1, hill, hbusy, hdone, -⟩ := acceptStep_frame (s := s) p.cmdOp p.cmdA p.cmdB
    exact ⟨hbusy, hdone, hr0, hr1, hill⟩

theorem clockEdge_iterate_visible (h : clockEdge p s = .next t) (hr : p.rst = false) (hb : s.busy = true)
    (hc : s.cnt.toNat < iterations s.op) : t.busy = true ∧ t.done = false ∧ SameResults s t := by
  rw [clockEdge_iterate hr hb hc] at h
  cases h
  obtain ⟨hr0, hr1, hill, hbusy, -⟩ := iterateStep_frame (s := s)
  exact ⟨hbusy.trans hb, iterateStep_done hc, hr0, hr1, hill⟩

/-- On a busy block whose loop is over, the edge that answers a next state is the complete step. -/
theorem eq_completeStep_of_clockEdge (h : clockEdge p s = .next t) (hr : p.rst = false) (hb : s.busy = true)
    (hc : ¬ s.cnt.toNat < iterations s.op) : t = s.completeStep := by
  obtain ⟨hr', -⟩ | ⟨-, hb', -⟩ | ⟨-, hb', -⟩ | ⟨-, -, hc', -⟩ | ⟨-, -, -, ht⟩ := clockEdge_next_cases h
  · simp [hr] at hr'
  · simp [hb] at hb'
  · simp [hb] at hb'
  · exact absurd hc' hc
  · exact ht

/-- Settles O42: the pulse by the five rows of the step table. -/
theorem outputsAreRegisters : Obligations.OutputsAreRegisters := by
  unfold Obligations.OutputsAreRegisters
  refine ⟨fun _ => rfl, fun p s t h => ?_⟩
  cases hr : p.rst with
  | true =>
    rw [clockEdge_reset hr] at h
    cases h
    simp
  | false =>
    cases hb : s.busy with
    | false =>
      obtain ⟨-, hdone, -⟩ := clockEdge_onIdle h hr hb
      simp [hdone]
    | true =>
      by_cases hc : s.cnt.toNat < iterations s.op
      · obtain ⟨-, hdone, -⟩ := clockEdge_iterate_visible h hr hb hc
        simp [hdone, hc]
      · obtain rfl := eq_completeStep_of_clockEdge h hr hb hc
        obtain ⟨-, hdone, -⟩ := completeStep_frame (s := s)
        simp [hdone, hc]

/-! No command reads `ILL`: its completion overwrites the flag and depends on it in nothing else (10 R25). -/

section IllUnread
variable (s : State) (e : Bool) (op : BitVec 3) (a b v w : Word)

theorem deliver_latch_ill : ({ s with ill := e }.latch op a b).deliver v = (s.latch op a b).deliver v := (rfl)

theorem deliverPair_latch_ill :
    ({ s with ill := e }.latch op a b).deliverPair v w = (s.latch op a b).deliverPair v w := (rfl)

theorem raiseIllegalOp_latch_ill :
    ({ s with ill := e }.latch op a b).raiseIllegalOp = (s.latch op a b).raiseIllegalOp := (rfl)

theorem finishAtan2_latch_ill (r : Rotation) (q : BitVec 2) :
    ({ s with ill := e }.latch op a b).finishAtan2 r q = (s.latch op a b).finishAtan2 r q := (rfl)

theorem finishIsqrt_latch_ill (r : RootPair) :
    ({ s with ill := e }.latch op a b).finishIsqrt r = (s.latch op a b).finishIsqrt r := (rfl)

end IllUnread

theorem exec_ill_unread (i : Instr) (e : Bool) (hb : s.busy = false) : exec i { s with ill := e } = exec i s := by
  have hb' : { s with ill := e }.busy = false := hb
  cases i with
  | sincos a b => rw [exec_sincos_ready a b hb, exec_sincos_ready a b hb', deliverPair_latch_ill]
  | sin a b => rw [exec_sin_ready a b hb, exec_sin_ready a b hb', deliver_latch_ill]
  | cos a b => rw [exec_cos_ready a b hb, exec_cos_ready a b hb', deliver_latch_ill]
  | atan2 a b => rw [exec_atan2_ready a b hb, exec_atan2_ready a b hb', finishAtan2_latch_ill]
  | isqrt a b => rw [exec_isqrt_ready a b hb, exec_isqrt_ready a b hb', finishIsqrt_latch_ill]
  | illegal5 a b => rw [exec_illegal5_ready a b hb, exec_illegal5_ready a b hb', raiseIllegalOp_latch_ill]
  | illegal6 a b => rw [exec_illegal6_ready a b hb, exec_illegal6_ready a b hb', raiseIllegalOp_latch_ill]
  | illegal7 a b => rw [exec_illegal7_ready a b hb, exec_illegal7_ready a b hb', raiseIllegalOp_latch_ill]

/-- Settles O40: the ports by definition, `ILL` unread by every command, and the flags by the kind of edge. -/
theorem flagsChangeOnlyAsListed : Obligations.FlagsChangeOnlyAsListed := by
  unfold Obligations.FlagsChangeOnlyAsListed
  refine ⟨fun _ => ⟨rfl, rfl, rfl⟩, fun i s e hb => ?_, fun p s t h =>
    ⟨fun hr => ?_, fun hr hb => ?_, fun hr hb hc => ?_, fun hr hb hc => ?_⟩⟩
  · obtain ⟨t, ht, -⟩ := exec_ready i hb
    exact ⟨t, ht, (exec_ill_unread i e hb).trans ht⟩
  · rw [clockEdge_reset hr] at h
    cases h
    exact ⟨rfl, rfl⟩
  · obtain ⟨hbusy, -, -, -, hill⟩ := clockEdge_onIdle h hr hb
    exact ⟨hbusy, hill⟩
  · obtain ⟨hbusy, -, -, -, hill⟩ := clockEdge_iterate_visible h hr hb hc
    exact ⟨hbusy, hill⟩
  · obtain rfl := eq_completeStep_of_clockEdge h hr hb hc
    obtain ⟨hbusy, -⟩ := completeStep_frame (s := s)
    exact ⟨hbusy, completeStep_ill⟩

/-! `SINCOS_F` in integers: table words are never negative, so neither reading nor negating one wraps (20 R51,
40 R93). -/

theorem zext32_toInt (w : RomWord) : (zext32 w).toInt = (w.toNat : Int) := by
  have := w.isLt
  rw [BitVec.toInt_eq_toNat_of_lt (by rw [zext32_toNat]; omega), zext32_toNat]

theorem neg32_zext32_toInt (w : RomWord) : (neg32 (zext32 w)).toInt = -(w.toNat : Int) := by
  have := w.isLt
  rw [neg32_eq, BitVec.toInt_neg, zext32_toInt, Int.bmod_eq_of_le (by omega) (by omega)]

theorem memReadSin_toNat (t : SinTable) (k : BitVec 8) : ((memReadSin t k).toNat : Int) = sinWord t k.toNat := by
  rw [sinWord, dif_pos k.isLt, memReadSin]

/-- 40 R93: the dispatch table in integers, for every table. -/
theorem sincosF_toInt (t : SinTable) (theta : Word) :
    (sincosF t theta).1.toInt = sineByTable t theta.toNat ∧
    (sincosF t theta).2.toInt = cosineByTable t theta.toNat := by
  have hk : theta.toNat / 32 % 256 = (angleIndex theta).toNat := (angleIndex_toNat theta).symm
  have hkc : 255 - (angleIndex theta).toNat = (complementIndex (angleIndex theta)).toNat :=
    (complementIndex_toNat _).symm
  have hq : theta.toNat / 32 / 256 % 4 = (angleQuadrant theta).toNat := by
    rw [angleQuadrant_toNat, Nat.div_div_eq_div_mul]
  have hlt : (angleQuadrant theta).toNat < 4 := (angleQuadrant theta).isLt
  simp only [sineByTable, cosineByTable, hk, hkc, hq, ← memReadSin_toNat, sincosF]
  generalize (angleQuadrant theta).toNat = q at *
  interval_cases q <;> simp [zext32_toInt, neg32_zext32_toInt]

/-- Settles O41: the ports by definition, and `R0`, `R1` by the kind of edge. -/
theorem resultsWrittenOnlyAsListed : Obligations.ResultsWrittenOnlyAsListed := by
  unfold Obligations.ResultsWrittenOnlyAsListed
  refine ⟨fun _ => ⟨rfl, rfl⟩, fun p s t h => ⟨fun hr => ?_, fun hr hkeep => ?_, fun hr hb hc => ?_⟩⟩
  · rw [clockEdge_reset hr] at h
    cases h
    exact ⟨rfl, rfl⟩
  · cases hb : s.busy with
    | false =>
      obtain ⟨-, -, hr0, hr1, -⟩ := clockEdge_onIdle h hr hb
      exact ⟨hr0, hr1⟩
    | true =>
      by_cases hc : s.cnt.toNat < iterations s.op
      · obtain ⟨-, -, hr0, hr1, -⟩ := clockEdge_iterate_visible h hr hb hc
        exact ⟨hr0, hr1⟩
      · have hreserved : 5 ≤ s.op.toNat := by simpa [hb, hc] using hkeep
        rw [eq_completeStep_of_clockEdge h hr hb hc, completeStep_reserved hreserved]
        simp
  · obtain rfl := eq_completeStep_of_clockEdge h hr hb hc
    obtain ⟨hsin, hcos⟩ := sincosF_toInt s.sinTable s.a
    refine ⟨fun ho => ?_, fun ho => ?_, fun ho => ?_, fun ho => ?_, fun ho => ?_, completeStep_r1⟩
    · rw [completeStep_sincos ho]
      exact ⟨hsin, hcos⟩
    · rw [completeStep_sin ho]
      exact hsin
    · rw [completeStep_cos ho]
      exact hcos
    · rw [completeStep_atan2 ho, State.deliver_r0]
    · rw [completeStep_isqrt ho, State.deliver_r0]

end Sys2Proof.Machine

/-!
SUPPORT. A whole command on the architectural state: `exec` refines `EXEC` (70 R184), so what a result depends on is
read off `EXEC` (20 R60). The complement index as a word (20 R54).
-/

namespace Sys2Proof.Machine

variable {s : State}

/-- On an idle block `exec` answers a state whose architectural part is `EXEC` of the one before (70 R184). -/
theorem exec_arch (i : Instr) (hb : s.busy = false) :
    ∃ t, exec i s = .next t ∧ t.arch = execArch s.sinTable s.atanTable s.arch i := by
  cases i with
  | sincos a b => exact ⟨_, exec_sincos_ready a b hb, by simp [State.arch, execArch]⟩
  | sin a b => exact ⟨_, exec_sin_ready a b hb, by simp [State.arch, execArch]⟩
  | cos a b => exact ⟨_, exec_cos_ready a b hb, by simp [State.arch, execArch]⟩
  | atan2 a b => exact ⟨_, exec_atan2_ready a b hb, by simp [State.arch, execArch, atan2F_eq]⟩
  | isqrt a b => exact ⟨_, exec_isqrt_ready a b hb, by simp [State.arch, execArch, isqrtF_eq]⟩
  | illegal5 a b => exact ⟨_, exec_illegal5_ready a b hb, by simp [State.arch, execArch]⟩
  | illegal6 a b => exact ⟨_, exec_illegal6_ready a b hb, by simp [State.arch, execArch]⟩
  | illegal7 a b => exact ⟨_, exec_illegal7_ready a b hb, by simp [State.arch, execArch]⟩

section ExecArch
variable {i : Instr} (sinT : SinTable) (atanT : AtanTable) (c c' : Arch)

/-- `R0` and `ILL` after a legal command do not depend on the architectural state before it (20 R60 (c)). -/
theorem execArch_r0_ill_of_legal (h : i.isLegal) :
    (execArch sinT atanT c i).r0 = (execArch sinT atanT c' i).r0 ∧
    (execArch sinT atanT c i).ill = (execArch sinT atanT c' i).ill := by
  cases i with
  | sincos a b => exact ⟨rfl, rfl⟩
  | sin a b => exact ⟨rfl, rfl⟩
  | cos a b => exact ⟨rfl, rfl⟩
  | atan2 a b => exact ⟨rfl, rfl⟩
  | isqrt a b => exact ⟨rfl, rfl⟩
  | illegal5 a b => simp [Instr.op] at h
  | illegal6 a b => simp [Instr.op] at h
  | illegal7 a b => simp [Instr.op] at h

theorem execArch_r1_sincos (h : i.op = 0#3) : (execArch sinT atanT c i).r1 = (execArch sinT atanT c' i).r1 := by
  cases i with
  | sincos a b => rfl
  | _ => simp [Instr.op] at h

theorem execArch_r1_kept (h : i.op ≠ 0#3) : (execArch sinT atanT c i).r1 = c.r1 := by
  cases i with
  | sincos a b => exact absurd rfl h
  | _ => rw [execArch]

end ExecArch

/-- Settles O23: both runs are `EXEC` over the same tables, which reads the state before it for `R1` alone. -/
theorem resultsDependOnOperandsOnly : Obligations.ResultsDependOnOperandsOnly := by
  unfold Obligations.ResultsDependOnOperandsOnly
  intro i s s' hlegal hb hb' hsin hatan
  obtain ⟨t, ht, harch⟩ := exec_arch i hb
  obtain ⟨t', ht', harch'⟩ := exec_arch i hb'
  rw [← hsin, ← hatan] at harch'
  have hr0ill := execArch_r0_ill_of_legal s.sinTable s.atanTable s.arch s'.arch hlegal
  have hsincos := execArch_r1_sincos (i := i) s.sinTable s.atanTable s.arch s'.arch
  rw [← harch, ← harch'] at hr0ill hsincos
  obtain ⟨hr0, hill⟩ := hr0ill
  exact ⟨t, t', ht, ht', hr0, hill, hsincos, fun ho =>
    ⟨(congrArg Arch.r1 harch).trans (execArch_r1_kept _ _ _ ho),
      (congrArg Arch.r1 harch').trans (execArch_r1_kept _ _ _ ho)⟩⟩

theorem complementIndex_eq_not (k : BitVec 8) : complementIndex k = ~~~k :=
  BitVec.eq_of_toNat_eq (by rw [complementIndex_toNat, BitVec.toNat_not])

theorem complementIndex_add (k : BitVec 8) : (complementIndex k).toNat + k.toNat = 255 := by
  have := k.isLt
  rw [complementIndex_toNat]; omega

/-- Settles O54: `255 - k` has no borrow, and is how `~~~k` reads as a number. -/
theorem complementIndexIsBitwiseNot : Obligations.ComplementIndexIsBitwiseNot :=
  fun k => ⟨complementIndex_eq_not k, complementIndex_add k⟩

end Sys2Proof.Machine

/-!
SUPPORT. Command words and their fields (30 R70, R72, R78): decoding and encoding are each other's inverse, and the
response word (30 R71).
-/

namespace Sys2Proof

/-! Commands and words. -/

theorem ofFields_eta (i : Instr) : Instr.ofFields i.op i.a i.b = i := by
  cases i with
  | sincos a b => exact Laws.Fields.sincos a b
  | sin a b => exact Laws.Fields.sin a b
  | cos a b => exact Laws.Fields.cos a b
  | atan2 a b => exact Laws.Fields.atan2 a b
  | isqrt a b => exact Laws.Fields.isqrt a b
  | illegal5 a b => exact Laws.Fields.illegal5 a b
  | illegal6 a b => exact Laws.Fields.illegal6 a b
  | illegal7 a b => exact Laws.Fields.illegal7 a b

theorem decode_append (o : BitVec 3) (a b : Word) : decode (o ++ a ++ b) = Instr.ofFields o a b := by
  rw [decode, cmdOp_append, cmdA_append, cmdB_append]

theorem encode_ofFields (o : BitVec 3) (a b : Word) : encode (Instr.ofFields o a b) = o ++ a ++ b := by
  rw [encode, ofFields_op, ofFields_a, ofFields_b]

theorem decode_encode (i : Instr) : decode (encode i) = i := by
  rw [encode, decode_append, ofFields_eta]

theorem encode_decode (w : Cmd) : encode (decode w) = w := by
  rw [decode, encode_ofFields, ← cmd_eq_append]

theorem decode_op (w : Cmd) : (decode w).op = cmdOp w := ofFields_op ..

theorem decode_a (w : Cmd) : (decode w).a = cmdA w := ofFields_a ..

theorem decode_b (w : Cmd) : (decode w).b = cmdB w := ofFields_b ..

/-- A word decodes to the command whose word it is. -/
theorem decode_eq_iff {w : Cmd} {i : Instr} : decode w = i ↔ encode i = w :=
  ⟨fun h => h ▸ encode_decode w, fun h => h ▸ decode_encode i⟩

theorem wellFormed_eq_true (i : Instr) : i.wellFormed = true := by
  cases i <;> rfl

/-- Settles O2: the word of a command holds its three fields, which name the command again. -/
theorem decodeOfEncode : Obligations.DecodeOfEncode :=
  fun i => ⟨wellFormed_eq_true i, decode_encode i⟩

/-- Settles O3: the map by decoding packed fields, the rest from the packing of a word's own fields. -/
theorem decodeFollowsCodeMap : Obligations.DecodeFollowsCodeMap := by
  unfold Obligations.DecodeFollowsCodeMap
  refine ⟨fun a b => ?_, fun w => ⟨encode_decode w, decode_op w, decode_a w, decode_b w⟩, fun w => ?_⟩
  · simp only [decode_append]
    exact ⟨rfl, rfl, rfl, rfl, rfl, rfl, rfl, rfl⟩
  · rw [Instr.isLegal, decode_op, cmdOp]

/-- Settles O1: each word is the encoding of the command named. -/
theorem commandWordsDecode : Obligations.CommandWordsDecode := by
  unfold Obligations.CommandWordsDecode
  simp only [decode_eq_iff]
  decide

/-! A number as a command word. -/

/-- A number decodes exactly if it fits the command port, and then as the word of its bits (30 R70; log 10). -/
theorem decodeTableWord_eq_some_iff {nbits w : Nat} {i : Instr} :
    decodeTableWord nbits w = some i ↔
      tableNumber nbits w < 2 ^ 67 ∧ decode (BitVec.ofNat 67 (tableNumber nbits w)) = i := by
  unfold decodeTableWord decodeNumber
  by_cases h : tableNumber nbits w < 2 ^ 67
  · rw [if_pos h]
    exact ⟨fun hi => ⟨h, Option.some.inj hi⟩, fun ⟨_, hi⟩ => congrArg some hi⟩
  · rw [if_neg h]
    exact ⟨fun hi => (nomatch hi), fun ⟨hfits, _⟩ => absurd hfits h⟩

end Sys2Proof

namespace Sys2Proof.Machine

/-- Settles O45: the three parts of a concatenation. -/
theorem responseWordFields : Obligations.ResponseWordFields := by
  unfold Obligations.ResponseWordFields
  intro s
  refine ⟨?_, ?_, BitVec.extractLsb'_append_eq_right⟩
  · rw [State.rsp, BitVec.getLsbD_append, if_neg (by decide), BitVec.getLsbD_append, if_neg (by decide)]
    exact BitVec.getLsbD_ofBool ..
  · calc s.rsp.extractLsb' 32 32
      _ = (BitVec.ofBool s.ill ++ s.r0).extractLsb' 0 32 := BitVec.extractLsb'_append_eq_of_le (by decide)
      _ = s.outputs.res0 := BitVec.extractLsb'_append_eq_right

end Sys2Proof.Machine

/-!
SUPPORT. Fields an operation ignores (30 R74).
-/

namespace Sys2Proof.Machine

variable {s : State}

theorem angleIndex_eq_position (theta : Word) : angleIndex theta = (anglePosition theta).extractLsb' 0 8 :=
  BitVec.eq_of_toNat_eq (by simp [angleIndex, anglePosition, BitVec.extractLsb'_toNat])

theorem angleQuadrant_eq_position (theta : Word) : angleQuadrant theta = (anglePosition theta).extractLsb' 8 2 :=
  BitVec.eq_of_toNat_eq (by
    simp only [angleQuadrant, anglePosition, BitVec.extractLsb'_toNat, Nat.shiftRight_eq_div_pow]; omega)

/-- `SINCOS_F` reads bits 14:5 of its angle and nothing else (30 R74, 40 R91). -/
theorem sincosF_eq_of_position (t : SinTable) {a a' : Word} (h : anglePosition a = anglePosition a') :
    sincosF t a = sincosF t a' := by
  have hk : angleIndex a = angleIndex a' := by rw [angleIndex_eq_position, h, ← angleIndex_eq_position]
  have hq : angleQuadrant a = angleQuadrant a' := by rw [angleQuadrant_eq_position, h, ← angleQuadrant_eq_position]
  rw [sincosF, sincosF, hk, hq]

/-- Two commands of the same `EXEC` leave an idle block with the same architectural state. -/
theorem exec_arch_congr {i j : Instr} (hb : s.busy = false)
    (h : execArch s.sinTable s.atanTable s.arch i = execArch s.sinTable s.atanTable s.arch j) :
    ∃ t u, exec i s = .next t ∧ exec j s = .next u ∧ t.arch = u.arch := by
  obtain ⟨t, ht, htarch⟩ := exec_arch i hb
  obtain ⟨u, hu, huarch⟩ := exec_arch j hb
  exact ⟨t, u, ht, hu, htarch.trans (h.trans huarch.symm)⟩

theorem exec_latched (i : Instr) (hb : s.busy = false) : ∃ t, exec i s = .next t ∧ Latched i t := by
  obtain ⟨t, ht, -, -, hop, ha, hb, -⟩ := exec_ready i hb
  exact ⟨t, ht, hop, ha, hb⟩

/-- Settles O22: `EXEC` reads no ignored field, and of an angle only its position. -/
theorem ignoredFieldsHaveNoEffect : Obligations.IgnoredFieldsHaveNoEffect := by
  unfold Obligations.IgnoredFieldsHaveNoEffect
  intro s hb
  refine ⟨fun a a' b b' hpos => ?_, fun n b b' => exec_arch_congr hb rfl, fun a a' b b' =>
    ⟨exec_arch_congr hb rfl, exec_arch_congr hb rfl, exec_arch_congr hb rfl⟩, fun i => exec_latched i hb⟩
  have hF : sincosF s.sinTable a = sincosF s.sinTable a' := sincosF_eq_of_position _ hpos
  refine ⟨exec_arch_congr hb ?_, exec_arch_congr hb ?_, exec_arch_congr hb ?_⟩
  · rw [execArch, execArch, hF]
  · rw [execArch, execArch, hF]
  · rw [execArch, execArch, hF]

end Sys2Proof.Machine

/-!
SUPPORT. What the host has on its list, one action at a time: the written lines (30 R79), the command a step runs, and
a run as a fold of `EXEC` and `RESET` (70 R184, R188).
-/

namespace Sys2Proof.Machine

variable {s : State} {op : BitVec 3} {x y : HostOperand} {rest : List HostAction}

/-- Settles O4: form by form. -/
theorem linesStandForHostActions : Obligations.LinesStandForHostActions := by
  unfold Obligations.LinesStandForHostActions
  refine ⟨fun _ => ⟨rfl, rfl, rfl, rfl⟩, fun _ _ => rfl, fun k a b => ?_, fun _ _ _ => ⟨rfl, rfl, rfl⟩, rfl⟩
  rw [Line.transaction, Transaction.action, BitVec.ofNat_add]

/-! The command a step runs. -/

theorem presented_eq_decode : s.presented op x y =
    decode (op ++ x.read s.outputs.res0 s.outputs.res1 ++ y.read s.outputs.res0 s.outputs.res1) :=
  (decode_append ..).symm

theorem step_command_ready (h : s.host = .command op x y :: rest) (hb : s.busy = false) :
    step s = exec (s.presented op x y) { s with host := rest } := by
  rw [step_commandHead h, hb, if_neg Bool.false_ne_true]

theorem step_command_busy (h : s.host = .command op x y :: rest) (hb : s.busy = true) :
    step s = exec (s.presented op x y) s := by
  rw [step_commandHead h, if_pos hb]

/-- The command word presented is the one the next step runs (log 9). -/
theorem step_presentWord (s : State) (w : Cmd) : step (s.presentWord w) = exec (decode w) { s with busy := false } :=
  step_command_ready (State.presentWord_host s w) (State.presentWord_busy s w)

theorem withFetchWord_eq {nbits w : Nat} (h : tableNumber nbits w < 2 ^ 67) :
    s.withFetchWord nbits w = s.presentWord (BitVec.ofNat 67 (tableNumber nbits w)) := by
  rw [State.withFetchWord, State.presentNumber, if_pos h]

/-- Settles O5: the command at the head of the list, on an idle and on a busy block, and a word placed there. -/
theorem stepRunsThePresentedCommand : Obligations.StepRunsThePresentedCommand := by
  unfold Obligations.StepRunsThePresentedCommand
  refine ⟨fun s op x y rest h hb => ?_, fun s op x y rest h hb => ?_, step_presentWord, fun s nbits w i h => ?_⟩
  · rw [step_command_ready h hb, presented_eq_decode]
  · rw [step_command_busy h hb, presented_eq_decode]
  · obtain ⟨hfits, hi⟩ := decodeTableWord_eq_some_iff.mp h
    rw [withFetchWord_eq hfits, step_presentWord, hi]

/-! A run of transactions. -/

/-- On an idle block every command completes with the result of its `EXEC`, and leaves the surroundings (70 R184). -/
theorem exec_completes (i : Instr) (hb : s.busy = false) :
    ∃ t, exec i s = .next t ∧ t.arch = execArch s.sinTable s.atanTable s.arch i ∧ t.busy = false ∧ t.done = true ∧
      SameSurroundings s t := by
  obtain ⟨t, ht, harch⟩ := exec_arch i hb
  obtain ⟨u, hu, hbusy, hdone, -, -, -, hsurroundings⟩ := exec_ready i hb
  obtain rfl : t = u := Host.Outcome.next.inj (ht.symm.trans hu)
  exact ⟨t, ht, harch, hbusy, hdone, hsurroundings⟩

/-- A step on an idle block carries out the transaction at the head of the host's list: the block is idle again and the
architectural state is what `EXEC` or `RESET` makes of it (70 R184). -/
theorem step_transaction (x : Transaction) (hb : s.busy = false) (h : s.host = x.action :: rest) :
    ∃ t, step s = .next t ∧ t.busy = false ∧ t.host = rest ∧ t.sinTable = s.sinTable ∧ t.atanTable = s.atanTable ∧
      t.arch = x.onArch s.sinTable s.atanTable s.arch := by
  cases x with
  | command op a b =>
    obtain ⟨t, ht, harch, hbusy, -, hsin, hatan, hhost, -⟩ :=
      exec_completes (s := { s with host := rest }) (s.presented op a b) hb
    exact ⟨t, (step_command_ready h hb).trans ht, hbusy, hhost, hsin, hatan, harch⟩
  | reset => exact ⟨_, (step_edge h).trans (clockEdge_reset rfl), rfl, rfl, rfl, rfl, rfl⟩

theorem runSteps_succ {t : State} {n : Nat} (h : step s = .next t) : runSteps (n + 1) s = runSteps n t := by
  rw [runSteps, h]

/-- Settles O52: by induction on the transactions, each of them one step. -/
theorem hostRunFoldsTransactions : Obligations.HostRunFoldsTransactions := by
  unfold Obligations.HostRunFoldsTransactions
  intro ts
  induction ts with
  | nil => exact fun s hb hhost => ⟨s, rfl, ⟨hb, hhost⟩, rfl⟩
  | cons x ts ih =>
    intro s hb hhost
    obtain ⟨u, hu, hub, huhost, hsin, hatan, huarch⟩ := step_transaction x hb hhost
    obtain ⟨t, ht, hover, harch⟩ := ih u hub huhost
    rw [hsin, hatan, huarch] at harch
    exact ⟨t, (runSteps_succ hu).trans ht, hover, harch⟩

end Sys2Proof.Machine

/-!
SUPPORT. `SINCOS_F` as words: the four rows of its dispatch, what a quarter turn and the reflection of the position do
to it, its range and signs (40 R91 to R98), and the three commands over it (40 R94 to R96, R101).
-/

namespace Sys2Proof.Machine

variable {s : State} {t : SinTable} {theta : Word}

/-! The fields of an angle (40 R91, R92). -/

theorem anglePosition_toNat (theta : Word) : (anglePosition theta).toNat = theta.toNat / 32 % 1024 := by
  simp [anglePosition, BitVec.extractLsb'_toNat, Nat.shiftRight_eq_div_pow]

/-- Settles O25: each field by its own equation; index and quadrant are the halves of the position. -/
theorem angleFieldsAreArithmetic : Obligations.AngleFieldsAreArithmetic := by
  unfold Obligations.AngleFieldsAreArithmetic
  intro theta
  refine ⟨anglePosition_toNat theta, ?_, ?_, complementIndex_toNat _⟩
  · rw [angleIndex_toNat, anglePosition_toNat]; omega
  · rw [angleQuadrant_toNat, anglePosition_toNat]; omega

/-- The two right shifts differ in the bits shifted in, and those are above the low `32 - i`. -/
theorem asr32_toNat_mod (a : Word) {i n : Nat} (h : n + i ≤ 32) :
    (asr32 a i).toNat % 2 ^ n = (lsr32 a i).toNat % 2 ^ n := by
  rw [← BitVec.toNat_setWidth, ← BitVec.toNat_setWidth]
  congr 1
  ext j hj
  have hlow : i + j < 32 := by omega
  rw [BitVec.getElem_setWidth, BitVec.getElem_setWidth, asr32, lsr32, BitVec.getLsbD_sshiftRight,
    BitVec.getLsbD_ushiftRight, if_pos hlow]
  simp [show ¬ 32 ≤ j by omega]

/-- Settles O27: the position is the low ten bits of the logical shift, and those are below bit 27. -/
theorem sincosShiftKindIrrelevant : Obligations.SincosShiftKindIrrelevant := by
  unfold Obligations.SincosShiftKindIrrelevant
  intro theta
  have hlogical : (lsr32 theta 5).toNat % 2 ^ 10 = (anglePosition theta).toNat := by
    rw [lsr32_toNat, anglePosition_toNat]; rfl
  exact ⟨(asr32_toNat_mod theta (by decide)).trans hlogical, hlogical⟩

/-! The four rows of the dispatch as words (40 R93). -/

/-- The table word at the index of an angle, as an operand (20 R51, 40 R93). -/
def tableWord (t : SinTable) (theta : Word) : Word := zext32 (memReadSin t (angleIndex theta))

/-- The table word at the complement index of an angle, as an operand (20 R51, R53, 40 R93). -/
def complementWord (t : SinTable) (theta : Word) : Word := zext32 (memReadSin t (complementIndex (angleIndex theta)))

theorem sincosF_quadrant_zero (h : angleQuadrant theta = 0#2) :
    sincosF t theta = (tableWord t theta, complementWord t theta) := by
  rw [sincosF, h]; rfl

theorem sincosF_quadrant_one (h : angleQuadrant theta = 1#2) :
    sincosF t theta = (complementWord t theta, neg32 (tableWord t theta)) := by
  rw [sincosF, h]; rfl

theorem sincosF_quadrant_two (h : angleQuadrant theta = 2#2) :
    sincosF t theta = (neg32 (tableWord t theta), neg32 (complementWord t theta)) := by
  rw [sincosF, h]; rfl

theorem sincosF_quadrant_three (h : angleQuadrant theta = 3#2) :
    sincosF t theta = (neg32 (complementWord t theta), tableWord t theta) := by
  rw [sincosF, h]; rfl

theorem quadrant_cases (q : BitVec 2) : q = 0#2 ∨ q = 1#2 ∨ q = 2#2 ∨ q = 3#2 := by
  revert q; decide

theorem neg32_neg32 (a : Word) : neg32 (neg32 a) = a := by
  rw [neg32_eq, neg32_eq, neg_neg]

/-! Exact laws (40 R98). -/

theorem add32_toNat (a b : Word) : (add32 a b).toNat = (a.toNat + b.toNat) % 2 ^ 32 :=
  BitVec.toNat_add a b

/-- Whole turns do not reach the position (40 R98 (b)). -/
theorem anglePosition_add_turns (theta m : Word) :
    anglePosition (add32 theta (32768#32 * m)) = anglePosition theta := by
  apply BitVec.eq_of_toNat_eq
  simp only [anglePosition_toNat, add32_toNat, BitVec.toNat_mul, BitVec.toNat_ofNat]
  omega

theorem angleIndex_add_quarter (theta : Word) : angleIndex (add32 theta 8192#32) = angleIndex theta := by
  apply BitVec.eq_of_toNat_eq
  simp only [angleIndex_toNat, add32_toNat, BitVec.toNat_ofNat]
  omega

theorem angleQuadrant_add_quarter (theta : Word) :
    angleQuadrant (add32 theta 8192#32) = angleQuadrant theta + 1#2 := by
  apply BitVec.eq_of_toNat_eq
  simp only [angleQuadrant_toNat, add32_toNat, BitVec.toNat_add, BitVec.toNat_ofNat]
  omega

/-- A quarter turn steps from one row of the dispatch to the next: the cosine becomes the sine, and the negated sine
the cosine. -/
theorem sincosF_add_quarter (t : SinTable) (theta : Word) :
    sincosF t (add32 theta 8192#32) = ((sincosF t theta).2, neg32 (sincosF t theta).1) := by
  have hq := angleQuadrant_add_quarter theta
  have hword : tableWord t (add32 theta 8192#32) = tableWord t theta := by
    rw [tableWord, angleIndex_add_quarter, tableWord]
  have hcomplement : complementWord t (add32 theta 8192#32) = complementWord t theta := by
    rw [complementWord, angleIndex_add_quarter, complementWord]
  rcases quadrant_cases (angleQuadrant theta) with h | h | h | h <;> rw [h] at hq
  · rw [sincosF_quadrant_zero h, sincosF_quadrant_one hq, hword, hcomplement]
  · rw [sincosF_quadrant_one h, sincosF_quadrant_two hq, hword, hcomplement]
  · rw [sincosF_quadrant_two h, sincosF_quadrant_three hq, hword, hcomplement, neg32_neg32]
  · rw [sincosF_quadrant_three h, sincosF_quadrant_zero hq, hword, hcomplement, neg32_neg32]

/-- A half turn is two quarter turns. -/
theorem sincosF_add_half (t : SinTable) (theta : Word) :
    sincosF t (add32 theta 16384#32) = (neg32 (sincosF t theta).1, neg32 (sincosF t theta).2) := by
  have hsplit : add32 theta 16384#32 = add32 (add32 theta 8192#32) 8192#32 := by
    rw [add32, add32, add32, BitVec.add_assoc]; rfl
  rw [hsplit, sincosF_add_quarter, sincosF_add_quarter]

/-- Reflecting the position swaps a table word with its complement and the rows 0 with 3, 1 with 2 (40 R98 (e)). -/
theorem sincosF_reflect (t : SinTable) {theta theta' : Word} (hpos : anglePosition theta' = ~~~anglePosition theta) :
    sincosF t theta' = (neg32 (sincosF t theta).1, (sincosF t theta).2) := by
  have hk : angleIndex theta' = complementIndex (angleIndex theta) := by
    rw [angleIndex_eq_position, hpos, complementIndex_eq_not, angleIndex_eq_position theta,
      BitVec.extractLsb'_not_of_lt (by decide)]
  have hq : angleQuadrant theta' = ~~~angleQuadrant theta := by
    rw [angleQuadrant_eq_position, hpos, angleQuadrant_eq_position theta]
    ext i hi
    simp [show 8 + i < 10 by omega]
  have hword : tableWord t theta' = complementWord t theta := by
    rw [tableWord, hk, complementWord]
  have hcomplement : complementWord t theta' = tableWord t theta := by
    rw [complementWord, hk, complementIndex_eq_not, complementIndex_eq_not, BitVec.not_not, tableWord]
  rcases quadrant_cases (angleQuadrant theta) with h | h | h | h <;> rw [h] at hq
  · rw [sincosF_quadrant_zero h, sincosF_quadrant_three hq, hword, hcomplement]
  · rw [sincosF_quadrant_one h, sincosF_quadrant_two hq, hword, hcomplement]
  · rw [sincosF_quadrant_two h, sincosF_quadrant_one hq, hword, hcomplement, neg32_neg32]
  · rw [sincosF_quadrant_three h, sincosF_quadrant_zero hq, hword, hcomplement, neg32_neg32]

/-- Settles O28: whole turns keep the position; a quarter turn and a reflection permute the rows of the dispatch. -/
theorem sincosExactLaws : Obligations.SincosExactLaws := by
  unfold Obligations.SincosExactLaws
  intro t theta theta' m
  refine ⟨sincosF_eq_of_position t, sincosF_eq_of_position t (anglePosition_add_turns theta m), ?_, ?_, ?_,
    fun h => ⟨?_, ?_⟩⟩
  · rw [sincosF_add_quarter]
  · rw [sincosF_add_half]
  · rw [sincosF_add_half]
  · rw [sincosF_reflect t h]
  · rw [sincosF_reflect t h]

/-! Range and sign (40 R97). -/

theorem memReadSin_le (h : t.Ok) (k : BitVec 8) : (memReadSin t k).toNat ≤ 32767 := by
  obtain ⟨hbound, -⟩ := h
  exact hbound ⟨k.toNat, k.isLt⟩

/-- Settles O29: row by row; a table word is at most 32767 and never negative. -/
theorem sincosRangeAndSign : Obligations.SincosRangeAndSign := by
  unfold Obligations.SincosRangeAndSign
  intro t theta hok
  have hk := memReadSin_le hok (angleIndex theta)
  have hkc := memReadSin_le hok (complementIndex (angleIndex theta))
  rcases quadrant_cases (angleQuadrant theta) with h | h | h | h
  · rw [sincosF_quadrant_zero h, h]
    simp only [tableWord, complementWord, zext32_toInt, BitVec.toNat_ofNat]
    omega
  · rw [sincosF_quadrant_one h, h]
    simp only [tableWord, complementWord, zext32_toInt, neg32_zext32_toInt, BitVec.toNat_ofNat]
    omega
  · rw [sincosF_quadrant_two h, h]
    simp only [tableWord, complementWord, neg32_zext32_toInt, BitVec.toNat_ofNat]
    omega
  · rw [sincosF_quadrant_three h, h]
    simp only [tableWord, complementWord, zext32_toInt, neg32_zext32_toInt, BitVec.toNat_ofNat]
    omega

/-- A negative word that fits 16 bits is a sign extension from bit 15. -/
theorem extract_high_of_negative {w : Word} (hneg : w.toInt < 0) (hlow : -32768 ≤ w.toInt) :
    w.extractLsb' 15 17 = BitVec.allOnes 17 := by
  apply BitVec.eq_of_toNat_eq
  rw [BitVec.toInt_eq_toNat_cond] at hneg hlow
  rw [BitVec.extractLsb'_toNat, BitVec.toNat_allOnes, Nat.shiftRight_eq_div_pow]
  have := w.isLt
  split at hneg <;> omega

/-- Settles O26: the rows in integers, and for the high bits the range of R97. -/
theorem sincosDispatchTable : Obligations.SincosDispatchTable := by
  unfold Obligations.SincosDispatchTable
  intro t theta
  obtain ⟨hsin, hcos⟩ := sincosF_toInt t theta
  refine ⟨hsin, hcos, fun hok => ?_⟩
  obtain ⟨hsinLow, -, hcosLow, -⟩ := sincosRangeAndSign t theta hok
  exact ⟨fun hneg => extract_high_of_negative hneg (by omega), fun hneg => extract_high_of_negative hneg (by omega)⟩

/-! The three commands (40 R94 to R96). -/

/-- The corner case every other one is a law away from: the ends of the table (40 R94). -/
theorem sincosF_zero (h : t.Ok) : sincosF t 0#32 = (0#32, 32767#32) := by
  obtain ⟨-, -, hfirst, hlast⟩ := h
  have hword : tableWord t 0#32 = 0#32 :=
    BitVec.eq_of_toNat_eq ((zext32_toNat _).trans hfirst)
  have hcomplement : complementWord t 0#32 = 32767#32 :=
    BitVec.eq_of_toNat_eq ((zext32_toNat _).trans hlast)
  rw [sincosF_quadrant_zero (by decide), hword, hcomplement]

theorem neg32_zero : neg32 0#32 = 0#32 := by decide

theorem sincosF_quarter (h : t.Ok) : sincosF t 8192#32 = (32767#32, 0#32) := by
  rw [show 8192#32 = add32 0#32 8192#32 by decide, sincosF_add_quarter, sincosF_zero h, neg32_zero]

theorem sincosF_minus_one (h : t.Ok) : sincosF t 0xFFFFFFFF#32 = (0#32, 32767#32) := by
  rw [sincosF_reflect (theta := 0#32) t (by decide), sincosF_zero h, neg32_zero]

/-- Settles O15: the completed state is read off field by field; the corner cases by the laws from angle 0. -/
theorem sincosResult : Obligations.SincosResult := by
  unfold Obligations.SincosResult
  refine ⟨fun s a b hb => ⟨_, exec_sincos_ready a b hb, ?_⟩, fun t hok =>
    ⟨sincosF_zero hok, sincosF_quarter hok, sincosF_eq_of_position t (by decide), sincosF_minus_one hok⟩,
    by decide +kernel⟩
  obtain ⟨hsin, hcos⟩ := sincosF_toInt s.sinTable a
  refine ⟨hsin, hcos, ?_⟩
  simp [Finished, Latched, SameSurroundings, SameRotation, SameRootPair, Instr.op, Instr.a, Instr.b]

/-- What `SIN` and `COS` leave alike on an idle block, whichever value is delivered: `R1` and all else but `R0`. -/
theorem deliver_latch_frame (i : Instr) (v : Word) :
    ((s.latch i.op i.a i.b).deliver v).r1 = s.r1 ∧ Finished i false s ((s.latch i.op i.a i.b).deliver v) ∧
    SameRotation s ((s.latch i.op i.a i.b).deliver v) ∧ SameRootPair s ((s.latch i.op i.a i.b).deliver v) ∧
    ((s.latch i.op i.a i.b).deliver v).cnt = s.cnt := by
  simp [Finished, Latched, SameSurroundings, SameRotation, SameRootPair]

/-- Settles O16: `R0` is the sine by the dispatch table, the rest is the frame. -/
theorem sinResult : Obligations.SinResult := by
  unfold Obligations.SinResult
  refine ⟨fun s a b hb => ⟨_, exec_sin_ready a b hb, ?_, deliver_latch_frame (.sin a b) _⟩, by decide +kernel⟩
  obtain ⟨hsin, -⟩ := sincosF_toInt s.sinTable a
  exact hsin

/-- Settles O17: `R0` is the cosine by the dispatch table, the rest is the frame. -/
theorem cosResult : Obligations.CosResult := by
  unfold Obligations.CosResult
  refine ⟨fun s a b hb => ⟨_, exec_cos_ready a b hb, ?_, deliver_latch_frame (.cos a b) _⟩, by decide +kernel⟩
  obtain ⟨-, hcos⟩ := sincosF_toInt s.sinTable a
  exact hcos

/-! The two edges of a table command (40 R101). -/

/-- The complete step of a command without a loop has the result of its `EXEC` (70 R183, R184). -/
theorem completeStep_latch_arch {op : BitVec 3} (a b : Word) (hb : s.busy = false) (h : iterations op = 0) :
    (s.latch op a b).completeStep.arch = execArch s.sinTable s.atanTable s.arch (Instr.ofFields op a b) := by
  obtain ⟨t, ht, harch⟩ := exec_arch (Instr.ofFields op a b) hb
  rw [exec_noLoop_ready hb h] at ht
  exact (Host.Outcome.next.inj ht).symm ▸ harch

/-- Settles O11: a code up to 2 has no loop, so the accept step only latches and the next edge completes. -/
theorem sincosMicroSteps : Obligations.SincosMicroSteps := by
  unfold Obligations.SincosMicroSteps
  refine ⟨rfl, rfl, rfl, fun s op a b p hop hb hr => ?_⟩
  have hnoLoop : iterations op = 0 := by
    obtain ⟨rfl, -⟩ | ⟨rfl, -⟩ | ⟨-, -, h⟩ := iterations_cases op
    · exact absurd hop (by decide)
    · exact absurd hop (by decide)
    · exact h
  have haccept : clockEdge (Pins.present op a b) s = .next (s.latch op a b) :=
    acceptStep_noLoop a b hnoLoop ▸ clockEdge_accept rfl hb rfl
  obtain ⟨hbusy, hdone, -⟩ := completeStep_frame (s := s.latch op a b)
  exact ⟨_, _, haccept, rfl, rfl, rfl, rfl, clockEdge_noLoop hnoLoop hr, hbusy, hdone,
    completeStep_latch_arch a b hb hnoLoop⟩

end Sys2Proof.Machine

/-!
SUPPORT. The invariant of the block: a state that meets it is idle, or about to complete a command without a loop, or
one of the states its own loop walks through (41 R123, 42 R137), and every row of the step table leads from such a
state to such a state (70 R183).
-/

namespace Sys2Proof.Machine

variable {s t : State} {p : Pins} {a b : Word}

/-! What is in flight, by the operation code in the latches. -/

theorem inFlight_of_idle (hb : s.busy = false) : s.InFlight := fun hbusy => by simp [hb] at hbusy

theorem pulseOk_of_idle (hb : s.busy = false) : s.PulseOk := fun hbusy => by simp [hb] at hbusy

theorem inFlight_atan2_iff (ho : s.op = 3#3) :
    s.InFlight ↔ (s.busy = true → s.cnt.toNat ≤ 13 ∧ s.quad = reduceQuadrant s.a s.b ∧
      s.rotation = atanLoop s.atanTable (reduceStart s.a s.b) s.cnt.toNat) := by
  rw [State.InFlight, latched_atan2 ho]

theorem inFlight_isqrt_iff (ho : s.op = 4#3) :
    s.InFlight ↔ (s.busy = true → s.cnt.toNat ≤ 16 ∧ s.rootPair = sqrtLoop (sqrtStart s.a) s.cnt.toNat) := by
  rw [State.InFlight, latched_isqrt ho]

/-- Without a loop there is nothing to say of the working registers. -/
theorem inFlight_of_noLoop (h : iterations s.op = 0) : s.InFlight := by
  intro _
  rw [State.latched]
  rcases op_cases s.op with ho | ho | ho | ho | ho | ho | ho | ho <;> rw [ho] at h ⊢
  · trivial
  · trivial
  · trivial
  · exact absurd h (by decide)
  · exact absurd h (by decide)
  · trivial
  · trivial
  · trivial

theorem inFlight_atan2After {n : Nat} (h : n ≤ 13) : (s.atan2After a b n).InFlight := by
  rw [inFlight_atan2_iff (State.atan2After_op n), State.atan2After_cnt_toNat h]
  exact fun _ => ⟨h, rfl, State.atan2After_rotation n⟩

theorem inFlight_isqrtAfter {n : Nat} (h : n ≤ 16) : (s.isqrtAfter a b n).InFlight := by
  rw [inFlight_isqrt_iff (State.isqrtAfter_op n), State.isqrtAfter_cnt_toNat h]
  exact fun _ => ⟨h, State.isqrtAfter_rootPair n⟩

/-- A busy block with an `ATAN2` in flight is on the walk of that command. -/
theorem eq_atan2After (hf : s.InFlight) (hp : s.PulseOk) (hb : s.busy = true) (ho : s.op = 3#3) :
    s.cnt.toNat ≤ 13 ∧ s = s.atan2After s.a s.b s.cnt.toNat := by
  obtain ⟨hcnt, hquad, hrot⟩ := (inFlight_atan2_iff ho).mp hf hb
  refine ⟨hcnt, ?_⟩
  rw [State.atan2After, ← hrot, ← hquad, BitVec.ofNat_toNat, BitVec.setWidth_eq]
  exact State.eq_of_fields rfl rfl rfl hb (hp hb) ho rfl rfl rfl rfl rfl rfl rfl rfl rfl rfl rfl rfl rfl

/-- A busy block with an `ISQRT` in flight is on the walk of that command. -/
theorem eq_isqrtAfter (hf : s.InFlight) (hp : s.PulseOk) (hb : s.busy = true) (ho : s.op = 4#3) :
    s.cnt.toNat ≤ 16 ∧ s = s.isqrtAfter s.a s.b s.cnt.toNat := by
  obtain ⟨hcnt, hroot⟩ := (inFlight_isqrt_iff ho).mp hf hb
  refine ⟨hcnt, ?_⟩
  rw [State.isqrtAfter, ← hroot, BitVec.ofNat_toNat, BitVec.setWidth_eq]
  exact State.eq_of_fields rfl rfl rfl hb (hp hb) ho rfl rfl rfl rfl rfl rfl rfl rfl rfl rfl rfl rfl rfl

/-! What each row of the step table does to it. -/

/-- The accept step of a loop command is the start of its walk. -/
theorem inFlight_acceptStep (op : BitVec 3) (a b : Word) : (s.acceptStep op a b).InFlight := by
  obtain ⟨rfl, -⟩ | ⟨rfl, -⟩ | ⟨-, -, h0⟩ := iterations_cases op
  · rw [acceptStep_eq_atan2After]
    exact inFlight_atan2After (Nat.zero_le 13)
  · rw [acceptStep_eq_isqrtAfter]
    exact inFlight_isqrtAfter (Nat.zero_le 16)
  · rw [acceptStep_noLoop a b h0]
    exact inFlight_of_noLoop h0

/-- An iterate step goes one state on along the walk. -/
theorem inFlight_iterateStep (hf : s.InFlight) (hp : s.PulseOk) (hb : s.busy = true)
    (hc : s.cnt.toNat < iterations s.op) : s.iterateStep.InFlight := by
  obtain ⟨ho, hn⟩ | ⟨ho, hn⟩ | ⟨-, -, hn⟩ := iterations_cases s.op
  · obtain ⟨-, hs⟩ := eq_atan2After hf hp hb ho
    have hlt : s.cnt.toNat < 13 := hn ▸ hc
    rw [hs, iterateStep_atan2After hlt]
    exact inFlight_atan2After hlt
  · obtain ⟨-, hs⟩ := eq_isqrtAfter hf hp hb ho
    have hlt : s.cnt.toNat < 16 := hn ▸ hc
    rw [hs, iterateStep_isqrtAfter hlt]
    exact inFlight_isqrtAfter hlt
  · omega

theorem clockEdge_keeps_inFlight (h : clockEdge p s = .next t) (hf : s.InFlight) (hp : s.PulseOk) : t.InFlight := by
  obtain ⟨-, rfl⟩ | ⟨-, hb, -, rfl⟩ | ⟨-, -, -, rfl⟩ | ⟨-, hb, hc, rfl⟩ | ⟨-, -, -, rfl⟩ := clockEdge_next_cases h
  · exact inFlight_of_idle (State.resetStep_busy s)
  · exact inFlight_of_idle ((State.clearDone_busy s).trans hb)
  · exact inFlight_acceptStep p.cmdOp p.cmdA p.cmdB
  · exact inFlight_iterateStep hf hp hb hc
  · obtain ⟨hbusy, -⟩ := completeStep_frame (s := s)
    exact inFlight_of_idle hbusy

/-- The only edge that sets `DONE` leaves the block idle (10 R29). -/
theorem clockEdge_pulseOk (h : clockEdge p s = .next t) : t.PulseOk := by
  obtain ⟨-, rfl⟩ | ⟨-, -, -, rfl⟩ | ⟨-, -, -, rfl⟩ | ⟨-, -, hc, rfl⟩ | ⟨-, -, -, rfl⟩ := clockEdge_next_cases h
  · exact fun _ => State.resetStep_done s
  · exact fun _ => State.clearDone_done s
  · obtain ⟨-, -, -, -, hdone, -⟩ := acceptStep_frame (s := s) p.cmdOp p.cmdA p.cmdB
    exact fun _ => hdone
  · exact fun _ => iterateStep_done hc
  · obtain ⟨hbusy, -⟩ := completeStep_frame (s := s)
    exact pulseOk_of_idle hbusy

theorem clockEdge_keeps_inv (h : clockEdge p s = .next t) (hinv : s.Inv) : t.Inv := by
  obtain ⟨hf, hp, hok⟩ := hinv
  obtain ⟨hsin, hatan, -⟩ := clockEdge_keeps_tables h
  refine ⟨clockEdge_keeps_inFlight h hf hp, clockEdge_pulseOk h, ?_⟩
  rw [State.TablesOk, hsin, hatan]
  exact hok

theorem exec_keeps_inv {i : Instr} (h : exec i s = .next t) (hinv : s.Inv) : t.Inv := by
  obtain ⟨-, hbusy, -, hsin, hatan, -⟩ | ⟨-, hedge⟩ := exec_next_cases i h
  · obtain ⟨-, -, hok⟩ := hinv
    refine ⟨inFlight_of_idle hbusy, pulseOk_of_idle hbusy, ?_⟩
    rw [State.TablesOk, hsin, hatan]
    exact hok
  · exact clockEdge_keeps_inv hedge hinv

/-- The invariant does not speak of the host's list. -/
theorem inv_withHost (hinv : s.Inv) (rest : List HostAction) : { s with host := rest }.Inv := hinv

/-- Settles O48: a step is one clock edge or one command, by what the host asks for, and each keeps the invariant. -/
theorem stepKeepsInvariant : Obligations.StepKeepsInvariant := by
  unfold Obligations.StepKeepsInvariant
  intro s t hinv h
  cases hhost : s.host with
  | nil => exact clockEdge_keeps_inv (step_nothingAsked hhost ▸ h) hinv
  | cons action rest =>
    cases action with
    | edge p => exact clockEdge_keeps_inv (step_edge hhost ▸ h) (inv_withHost hinv rest)
    | command op a b =>
      cases hbusy : s.busy with
      | true => exact exec_keeps_inv (step_command_busy hhost hbusy ▸ h) hinv
      | false => exact exec_keeps_inv (step_command_ready hhost hbusy ▸ h) (inv_withHost hinv rest)

end Sys2Proof.Machine

/-!
SUPPORT. The parts of `ATAN2_F` in integer arithmetic: the reduction by the signs of the operands, one iteration and
the correction as the pattern of their versions on mathematical integers (41 R111 to R114, R117).
-/

namespace Sys2Proof.Machine

variable {t : AtanTable} {v w y x : Word}

/-! The reduction (41 R111). -/

theorem isNegative_of_nonneg (h : 0 ≤ v.toInt) : isNegative v = false := by
  rw [← Bool.not_eq_true, isNegative_iff]; omega

theorem reduceComponent_of_nonneg (h : 0 ≤ v.toInt) : reduceComponent v = v := by
  rw [reduceComponent, isNegative_of_nonneg h, if_neg Bool.false_ne_true]

theorem reduceComponent_of_neg (h : v.toInt < 0) : reduceComponent v = -v := by
  rw [reduceComponent, if_pos ((isNegative_iff v).mpr h), neg32_eq]

theorem reduceQuadrant_zero (hx : 0 ≤ x.toInt) (hy : 0 ≤ y.toInt) : reduceQuadrant y x = 0#2 := by
  rw [reduceQuadrant_eq, isNegative_of_nonneg hx, isNegative_of_nonneg hy]; rfl

theorem reduceQuadrant_one (hx : x.toInt < 0) (hy : 0 ≤ y.toInt) : reduceQuadrant y x = 1#2 := by
  rw [reduceQuadrant_eq, (isNegative_iff x).mpr hx, isNegative_of_nonneg hy]; rfl

theorem reduceQuadrant_two (hx : x.toInt < 0) (hy : y.toInt < 0) : reduceQuadrant y x = 2#2 := by
  rw [reduceQuadrant_eq, (isNegative_iff x).mpr hx, (isNegative_iff y).mpr hy]; rfl

theorem reduceQuadrant_three (hx : 0 ≤ x.toInt) (hy : y.toInt < 0) : reduceQuadrant y x = 3#2 := by
  rw [reduceQuadrant_eq, isNegative_of_nonneg hx, (isNegative_iff y).mpr hy]; rfl

/-- Settles O30: the signs of the two operands are independent. -/
theorem atan2ReduceCases : Obligations.Atan2ReduceCases := by
  unfold Obligations.Atan2ReduceCases
  exact fun y x =>
    ⟨fun hx hy => ⟨reduceQuadrant_zero hx hy, reduceComponent_of_nonneg hx, reduceComponent_of_nonneg hy⟩,
      fun hx hy => ⟨reduceQuadrant_one hx hy, reduceComponent_of_neg hx, reduceComponent_of_nonneg hy⟩,
      fun hx hy => ⟨reduceQuadrant_two hx hy, reduceComponent_of_neg hx, reduceComponent_of_neg hy⟩,
      fun hx hy => ⟨reduceQuadrant_three hx hy, reduceComponent_of_nonneg hx, reduceComponent_of_neg hy⟩⟩

/-- `0x80000000` is the one word that negation does not bring to its magnitude (00 R12). -/
theorem toInt_neg_word (h : v ≠ 0x80000000#32) : (-v).toInt = -v.toInt := BitVec.toInt_neg_of_ne_intMin h

theorem reduceComponent_toInt (h : v ≠ 0x80000000#32) : (reduceComponent v).toInt = |v.toInt| := by
  obtain hv | hv := le_or_gt 0 v.toInt
  · rw [reduceComponent_of_nonneg hv, abs_of_nonneg hv]
  · rw [reduceComponent_of_neg hv, toInt_neg_word h, abs_of_neg hv]

theorem reduceComponent_neg_of_neg (h : v ≠ 0x80000000#32) (hv : v.toInt < 0) :
    reduceComponent (-v) = reduceComponent v := by
  have hneg : 0 ≤ (-v).toInt := by rw [toInt_neg_word h]; omega
  rw [reduceComponent_of_nonneg hneg, reduceComponent_of_neg hv]

/-! The word primitives as patterns of integers. -/

theorem add32_eq_ofInt (a b : Word) : add32 a b = BitVec.ofInt 32 (a.toInt + b.toInt) := by
  rw [BitVec.ofInt_add, BitVec.ofInt_toInt, BitVec.ofInt_toInt, add32]

theorem sub32_eq_ofInt (a b : Word) : sub32 a b = BitVec.ofInt 32 (a.toInt - b.toInt) := by
  rw [Int.sub_eq_add_neg, BitVec.ofInt_add, BitVec.ofInt_neg, BitVec.ofInt_toInt, BitVec.ofInt_toInt, sub32,
    BitVec.sub_eq_add_neg]

/-! One iteration (41 R113). -/

/-- The word patterns of a rotation on mathematical integers: each value modulo `2^32`. -/
def IntRotation.words (v : IntRotation) : Rotation := ⟨BitVec.ofInt 32 v.x, BitVec.ofInt 32 v.y, BitVec.ofInt 32 v.ang⟩

theorem intAtanStep_negative (i : Fin 13) {v : IntRotation} (h : v.y < 0) :
    intAtanStep t i v =
      ⟨v.x - v.y / 2 ^ i.val, v.y + v.x / 2 ^ i.val, v.ang + ((memReadAtan t i).toNat : Int)⟩ := by
  rw [intAtanStep, if_pos h]

theorem intAtanStep_nonnegative (i : Fin 13) {v : IntRotation} (h : 0 ≤ v.y) :
    intAtanStep t i v =
      ⟨v.x + v.y / 2 ^ i.val, v.y - v.x / 2 ^ i.val, v.ang - ((memReadAtan t i).toNat : Int)⟩ := by
  rw [intAtanStep, if_neg (not_lt.mpr h)]

/-- `STEP` is the step on mathematical integers modulo `2^32`. -/
theorem atanStep_eq_words (t : AtanTable) (i : Fin 13) (v : Rotation) :
    atanStep t i v = (intAtanStep t i v.signed).words := by
  obtain hy | hy := le_or_gt 0 v.y.toInt
  · rw [atanStep_nonnegative t i v (isNegative_of_nonneg hy), intAtanStep_nonnegative i hy]
    simp only [add32_eq_ofInt, sub32_eq_ofInt, asr32_toInt, zext32_toInt, IntRotation.words, Rotation.signed]
  · rw [atanStep_negative t i v ((isNegative_iff v.y).mpr hy), intAtanStep_negative i hy]
    simp only [add32_eq_ofInt, sub32_eq_ofInt, asr32_toInt, zext32_toInt, IntRotation.words, Rotation.signed]

/-- Settles O31: the two branches of the step on mathematical integers. -/
theorem atan2RotationStep : Obligations.Atan2RotationStep := by
  unfold Obligations.Atan2RotationStep
  refine ⟨fun t v n h => atanLoop_succ t v h, fun t i v => ⟨fun hy => ?_, fun hy => ?_⟩⟩
  · rw [atanStep_eq_words, intAtanStep_negative i hy]; rfl
  · rw [atanStep_eq_words, intAtanStep_nonnegative i hy]; rfl

/-! The correction (41 R114). -/

/-- `CORRECT` is its version on mathematical integers modulo `2^32`. -/
theorem correct_eq_ofInt (q : BitVec 2) (a : Word) : correct q a = BitVec.ofInt 32 (intCorrect q a.toInt) := by
  rcases quadrant_cases q with rfl | rfl | rfl | rfl
  · exact (sub32_eq_ofInt 0#32 a).trans (congrArg _ (Int.zero_sub _))
  · exact add32_eq_ofInt Config.halfTurn a
  · exact sub32_eq_ofInt Config.halfTurn a
  · exact add32_eq_ofInt Config.fullTurn a

/-- Settles O32: the four lines of `CORRECT` on mathematical integers. -/
theorem atan2QuadrantCorrection : Obligations.Atan2QuadrantCorrection :=
  fun a => ⟨correct_eq_ofInt 0#2 a, correct_eq_ofInt 1#2 a, correct_eq_ofInt 2#2 a, correct_eq_ofInt 3#2 a⟩

theorem correct_zero (a : Word) : correct 0#2 a = -a := neg32_eq a

theorem correct_one (a : Word) : correct 1#2 a = 16384#32 - correct 0#2 a := by
  rw [correct_zero, sub_neg_eq_add]; rfl

theorem correct_two (a : Word) : correct 2#2 a = 16384#32 + correct 0#2 a := by
  rw [correct_zero, ← sub_eq_add_neg]; rfl

theorem correct_three (a : Word) : correct 3#2 a = 32768#32 - correct 0#2 a := by
  rw [correct_zero, sub_neg_eq_add]; rfl

/-! The four sign patterns of one pair of magnitudes (41 R117). -/

/-- `ATAN2_F` for operands in the first quadrant that reduce to the same vector as `y` and `x`. -/
theorem atan2F_first_quadrant {y' x' : Word} (hx : 0 ≤ x'.toInt) (hy : 0 ≤ y'.toInt)
    (hstart : reduceStart y' x' = reduceStart y x) :
    atan2F t y' x' = correct 0#2 (atanLoop t (reduceStart y x) 13).ang := by
  rw [atan2F_eq, reduceQuadrant_zero hx hy, hstart]

/-- Settles O34: the patterns share the reduced vector, so they differ in the line of `CORRECT` alone. -/
theorem atan2SignPatterns : Obligations.Atan2SignPatterns := by
  unfold Obligations.Atan2SignPatterns
  intro t y x hymin hxmin
  have hnegx : x.toInt < 0 → 0 ≤ (-x).toInt := by rw [toInt_neg_word hxmin]; omega
  have hnegy : y.toInt < 0 → 0 ≤ (-y).toInt := by rw [toInt_neg_word hymin]; omega
  refine ⟨fun hx hy => ?_, fun hx hy => ?_, fun hx hy => ?_⟩
  · have hstart : reduceStart y (-x) = reduceStart y x := by
      rw [reduceStart, reduceStart, reduceComponent_neg_of_neg hxmin hx]
    rw [atan2F_first_quadrant (hnegx hx) hy hstart, atan2F_eq, reduceQuadrant_one hx hy, correct_one]
  · have hstart : reduceStart (-y) (-x) = reduceStart y x := by
      rw [reduceStart, reduceStart, reduceComponent_neg_of_neg hxmin hx, reduceComponent_neg_of_neg hymin hy]
    rw [atan2F_first_quadrant (hnegx hx) (hnegy hy) hstart, atan2F_eq, reduceQuadrant_two hx hy, correct_two]
  · have hstart : reduceStart (-y) x = reduceStart y x := by
      rw [reduceStart, reduceStart, reduceComponent_neg_of_neg hymin hy]
    rw [atan2F_first_quadrant hx (hnegy hy) hstart, atan2F_eq, reduceQuadrant_three hx hy, correct_three]

end Sys2Proof.Machine

/-!
SUPPORT. The accumulator of `ATAN2`: every iteration moves it by one table word, so it stays within the partial sums
of the table and never wraps (41 R116, R120).
-/

namespace Sys2Proof.Machine

variable {t : AtanTable} {v : Rotation} {n : Nat}

/-! The partial sums of the table. -/

/-- The sum of the first `n` arctangent words. -/
def atanPartialSum (t : AtanTable) (n : Nat) : Nat := ((t.toList.map BitVec.toNat).take n).sum

@[simp] theorem atanPartialSum_zero (t : AtanTable) : atanPartialSum t 0 = 0 := (rfl)

theorem atanPartialSum_succ (t : AtanTable) (h : n < 13) :
    atanPartialSum t (n + 1) = atanPartialSum t n + (memReadAtan t ⟨n, h⟩).toNat := by
  have hlen : n < (t.toList.map BitVec.toNat).length := by rwa [List.length_map, Vector.length_toList]
  rw [atanPartialSum, List.sum_take_succ _ n hlen, List.getElem_map, Vector.getElem_toList, atanPartialSum, memReadAtan]

theorem atanPartialSum_one (t : AtanTable) : atanPartialSum t 1 = t[0].toNat := by
  rw [atanPartialSum_succ t (by decide), atanPartialSum_zero, Nat.zero_add]; rfl

theorem atanPartialSum_thirteen (t : AtanTable) : atanPartialSum t 13 = atanSigma t := by
  rw [atanPartialSum, List.take_of_length_le (by rw [List.length_map, Vector.length_toList]), atanSigma]

theorem atanPartialSum_mono (t : AtanTable) : Monotone (atanPartialSum t) := List.monotone_sum_take _

theorem atanPartialSum_le_sigma (t : AtanTable) (n : Nat) : atanPartialSum t n ≤ atanSigma t :=
  (List.take_sublist n _).sum_le_sum fun _ _ => Nat.zero_le _

theorem atanSigma_le (t : AtanTable) : atanSigma t ≤ 13 * 65535 := by
  have hword : ∀ k ∈ t.toList.map BitVec.toNat, k ≤ 65535 := by
    intro k hk
    obtain ⟨w, -, rfl⟩ := List.mem_map.mp hk
    exact Nat.le_of_lt_succ w.isLt
  have hsum := List.sum_le_card_nsmul _ _ hword
  rwa [List.length_map, Vector.length_toList] at hsum

theorem atanPartialSum_le (t : AtanTable) (n : Nat) : atanPartialSum t n ≤ 13 * 65535 :=
  (atanPartialSum_le_sigma t n).trans (atanSigma_le t)

/-! The thirteen iterations are all there are. -/

theorem atanLoop_beyond (h : 13 ≤ n) : atanLoop t v (n + 1) = atanLoop t v n := by
  rw [atanLoop, dif_neg (by omega)]

/-! The origin (41 R116). -/

/-- At the origin nothing rotates, and zero is not negative: every word is subtracted. -/
theorem atanLoop_origin (t : AtanTable) (h : n ≤ 13) :
    atanLoop t ⟨0#32, 0#32, 0#32⟩ n = ⟨0#32, 0#32, -BitVec.ofNat 32 (atanPartialSum t n)⟩ := by
  induction n with
  | zero => rw [atanLoop_zero, atanPartialSum_zero]; rfl
  | succ n ih =>
    have hshift : asr32 0#32 n = 0#32 := by rw [← BitVec.toInt_inj, asr32_toInt]; simp
    have hword : zext32 (memReadAtan t ⟨n, h⟩) = BitVec.ofNat 32 (memReadAtan t ⟨n, h⟩).toNat := by
      rw [← zext32_toNat, BitVec.ofNat_toNat, BitVec.setWidth_eq]
    rw [atanLoop_succ _ _ h, ih (Nat.le_of_succ_le h), atanStep_nonnegative _ _ _ (isNegative_of_nonneg (by simp)),
      atanPartialSum_succ t h, BitVec.ofNat_add, neg_add, hword]
    simp [hshift, add32, sub32, BitVec.sub_eq_add_neg]

/-- Settles O33: the origin is in the first quadrant, and its accumulator ends at minus the sum of the table. -/
theorem atan2AtTheOrigin : Obligations.Atan2AtTheOrigin := by
  unfold Obligations.Atan2AtTheOrigin
  refine ⟨fun t => ?_, by decide⟩
  have hstart : reduceStart 0#32 0#32 = ⟨0#32, 0#32, 0#32⟩ := by rw [reduceStart, reduceComponent_zero]
  rw [atan2F_first_quadrant (by simp) (by simp) rfl, hstart, atanLoop_origin t le_rfl, atanPartialSum_thirteen,
    correct_zero, neg_neg]

/-! The bounds (41 R120). -/

theorem intAtanStep_ang_bound (t : AtanTable) (i : Fin 13) (v : Rotation) :
    v.ang.toInt - (memReadAtan t i).toNat ≤ (intAtanStep t i v.signed).ang ∧
    (intAtanStep t i v.signed).ang ≤ v.ang.toInt + (memReadAtan t i).toNat := by
  obtain hy | hy := le_or_gt 0 v.y.toInt
  · rw [intAtanStep_nonnegative i hy]
    exact ⟨le_rfl, show v.ang.toInt - _ ≤ _ by omega⟩
  · rw [intAtanStep_negative i hy]
    exact ⟨show _ ≤ v.ang.toInt + _ by omega, le_rfl⟩

/-- The accumulator of one iteration wraps only near the ends of the range, far from where the loop is. -/
theorem atanStep_ang_toInt (t : AtanTable) (i : Fin 13) (hlo : -2 ^ 30 ≤ v.ang.toInt) (hhi : v.ang.toInt ≤ 2 ^ 30) :
    (atanStep t i v).ang.toInt = (intAtanStep t i v.signed).ang := by
  have hword := (memReadAtan t i).isLt
  obtain ⟨hdown, hup⟩ := intAtanStep_ang_bound t i v
  rw [atanStep_eq_words]
  exact BitVec.toInt_ofInt_eq_self (by decide) (by omega) (by omega)

/-- Within the partial sum the accumulator does not wrap, and the next word keeps it within the next partial sum. -/
theorem atanLoop_ang_bound (t : AtanTable) (hv : v.ang = 0#32) (n : Nat) :
    -(atanPartialSum t n : Int) ≤ (atanLoop t v n).ang.toInt ∧
    (atanLoop t v n).ang.toInt ≤ atanPartialSum t n := by
  induction n with
  | zero => simp [hv]
  | succ n ih =>
    obtain h | h := lt_or_ge n 13
    · have hsmall := atanPartialSum_le t n
      obtain ⟨hdown, hup⟩ := intAtanStep_ang_bound t ⟨n, h⟩ (atanLoop t v n)
      rw [atanLoop_succ t v h, atanStep_ang_toInt t _ (by omega) (by omega), atanPartialSum_succ t h]
      omega
    · have hmono := atanPartialSum_mono t (Nat.le_add_right n 1)
      rw [atanLoop_beyond h]
      omega

theorem atanLoop_ang_small (t : AtanTable) (hv : v.ang = 0#32) (n : Nat) :
    -2 ^ 30 ≤ (atanLoop t v n).ang.toInt ∧ (atanLoop t v n).ang.toInt ≤ 2 ^ 30 := by
  have hsmall := atanPartialSum_le t n
  obtain ⟨hlo, hhi⟩ := atanLoop_ang_bound t hv n
  omega

theorem atanLoop_succ_ang_toInt (t : AtanTable) (hv : v.ang = 0#32) (h : n < 13) :
    (atanLoop t v (n + 1)).ang.toInt = (intAtanStep t ⟨n, h⟩ (atanLoop t v n).signed).ang := by
  obtain ⟨hlo, hhi⟩ := atanLoop_ang_small t hv n
  rw [atanLoop_succ t v h, atanStep_ang_toInt t _ hlo hhi]

/-- From a vector with `Y` not negative the first word is subtracted, which no later word makes good. -/
theorem atanLoop_ang_upper (t : AtanTable) (hv : v.ang = 0#32) (hy : 0 ≤ v.y.toInt) (h : n < 13) :
    (atanLoop t v (n + 1)).ang.toInt ≤ atanPartialSum t (n + 1) - 2 * t[0].toNat := by
  induction n with
  | zero =>
    have hstart : v.signed.ang = 0 := congrArg BitVec.toInt hv
    have hfirst : (memReadAtan t ⟨0, h⟩).toNat = t[0].toNat := rfl
    rw [atanLoop_succ_ang_toInt t hv h, atanLoop_zero, intAtanStep_nonnegative _ hy, atanPartialSum_one, hstart, hfirst]
    dsimp only
    omega
  | succ n ih =>
    have ih := ih (by omega)
    obtain ⟨-, hup⟩ := intAtanStep_ang_bound t ⟨n + 1, h⟩ (atanLoop t v (n + 1))
    rw [atanLoop_succ_ang_toInt t hv h, atanPartialSum_succ t h]
    omega

/-- Settles O35: the partial sums end at the table's sum; only `0x80000000` keeps its sign in the reduction. -/
theorem atan2AccumulatorBound : Obligations.Atan2AccumulatorBound := by
  unfold Obligations.Atan2AccumulatorBound
  refine fun t y x => ⟨fun n => ?_, fun hmin => ?_⟩
  · have hsigma := atanPartialSum_le_sigma t n
    obtain ⟨hlo, hhi⟩ := atanLoop_ang_bound t (v := reduceStart y x) rfl n
    omega
  · have hy : 0 ≤ (reduceStart y x).y.toInt := reduceComponent_toInt hmin ▸ abs_nonneg y.toInt
    rw [← atanPartialSum_thirteen]
    exact atanLoop_ang_upper t rfl hy (by decide)

end Sys2Proof.Machine

/-!
SUPPORT. The safe domain of `ATAN2` (41 R118).  On mathematical integers `Y` never leaves the box it starts in, and
iteration `i` adds at most a `2^-i` part of that box to `X`, so `X` stays below three times the box: no operation wraps.
-/

namespace Sys2Proof.Machine

variable {t : AtanTable} {n : Nat}

/-- Where the vector of the safe domain is before iteration `n`: `2^29 * (3 - 2^(1-n))` bounds `X`. -/
def IntRotation.Safe (n : Nat) (v : IntRotation) : Prop :=
  0 ≤ v.x ∧ v.x ≤ 3 * 2 ^ 29 - 2 ^ (30 - n) ∧ -2 ^ 29 ≤ v.y ∧ v.y ≤ 2 ^ 29

theorem IntRotation.Safe.succ {v : IntRotation} (h : v.Safe n) : v.Safe (n + 1) := by
  obtain ⟨hx0, hx, hy0, hy⟩ := h
  have hpow : (2 : Int) ^ (30 - (n + 1)) ≤ 2 ^ (30 - n) := pow_le_pow_right₀ (by decide) (by omega)
  exact ⟨hx0, by omega, hy0, hy⟩

/-- The box is `2^n` of the parts that iteration `n` can add to `X`. -/
theorem box_parts (hn : n < 13) :
    (2 : Int) ^ (29 - n) * 2 ^ n = 2 ^ 29 ∧ (2 : Int) ^ (30 - n) = 2 * 2 ^ (29 - n) := by
  constructor
  · rw [← pow_add, Nat.sub_add_cancel (by omega)]
  · rw [← pow_succ', show 29 - n + 1 = 30 - n by omega]

/-- What the two shifts of iteration `n` give: of `Y` at most the `2^-n` part of the box, of `X` at most the box. -/
theorem IntRotation.Safe.shifts {v : IntRotation} (h : v.Safe n) (hn : n < 13) :
    -2 ^ (29 - n) ≤ v.y / 2 ^ n ∧ v.y / 2 ^ n ≤ 2 ^ (29 - n) ∧ 0 ≤ v.x / 2 ^ n ∧ v.x / 2 ^ n ≤ 2 ^ 29 := by
  obtain ⟨hx0, hx, hy0, hy⟩ := h
  obtain ⟨hbox, htwice⟩ := box_parts hn
  have hp : (0 : Int) < 2 ^ n := by positivity
  have hq : (0 : Int) < 2 ^ (29 - n) := by positivity
  rw [htwice] at hx
  generalize (2 : Int) ^ n = p at *
  generalize (2 : Int) ^ (29 - n) = q at *
  have hfactors : 0 ≤ (p - 1) * (p - 2) := by
    obtain rfl | h2 : p = 1 ∨ 2 ≤ p := by omega
    · rfl
    · exact mul_nonneg (by omega) (by omega)
  refine ⟨Int.le_ediv_of_mul_le hp ?_, Int.ediv_le_of_le_mul hp ?_, Int.ediv_nonneg hx0 hp.le,
    Int.ediv_le_of_le_mul hp ?_⟩
  · rw [neg_mul, hbox]; exact hy0
  · rw [hbox]; exact hy
  · calc v.x
      _ ≤ 3 * 2 ^ 29 - 2 * q := hx
      _ = q * p * p - q * ((p - 1) * (p - 2)) := by rw [← hbox]; ring
      _ ≤ 2 ^ 29 * p := by rw [hbox]; exact sub_le_self _ (mul_nonneg hq.le hfactors)

theorem intAtanStep_safe {v : IntRotation} (i : Fin 13) (h : v.Safe i.val) :
    (intAtanStep t i v).Safe (i.val + 1) := by
  obtain ⟨hys0, hys, hxs0, hxs⟩ := h.shifts i.isLt
  obtain ⟨hx0, hx, hy0, hy⟩ := h
  have hnext : 30 - (i.val + 1) = 29 - i.val := by omega
  obtain ⟨-, htwice⟩ := box_parts i.isLt
  rw [IntRotation.Safe, hnext]
  obtain hsign | hsign := le_or_gt 0 v.y
  · have hys1 : 0 ≤ v.y / 2 ^ i.val := Int.ediv_nonneg hsign (by positivity)
    rw [intAtanStep_nonnegative i hsign]
    dsimp only
    omega
  · have hys1 : v.y / 2 ^ i.val < 0 := Int.ediv_neg_of_neg_of_pos hsign (by positivity)
    rw [intAtanStep_negative i hsign]
    dsimp only
    omega

/-! The loop on mathematical integers, one body at a time. -/

theorem intAtanLoop_zero (t : AtanTable) (v : IntRotation) : intAtanLoop t v 0 = v := by
  rw [intAtanLoop]

theorem intAtanLoop_succ (t : AtanTable) (v : IntRotation) (h : n < 13) :
    intAtanLoop t v (n + 1) = intAtanStep t ⟨n, h⟩ (intAtanLoop t v n) := by
  rw [intAtanLoop, dif_pos h]

theorem intAtanLoop_beyond {v : IntRotation} (h : 13 ≤ n) : intAtanLoop t v (n + 1) = intAtanLoop t v n := by
  rw [intAtanLoop, dif_neg (by omega)]

theorem intAtanLoop_safe (t : AtanTable) {v : IntRotation} (h : v.Safe 0) (n : Nat) : (intAtanLoop t v n).Safe n := by
  induction n with
  | zero => rwa [intAtanLoop_zero]
  | succ n ih =>
    obtain hn | hn := lt_or_ge n 13
    · rw [intAtanLoop_succ t v hn]
      exact intAtanStep_safe ⟨n, hn⟩ ih
    · rw [intAtanLoop_beyond hn]
      exact ih.succ

/-- An iteration that ends in the safe box does not wrap, if its accumulator does not. -/
theorem atanStep_signed {i : Fin 13} {v : Rotation} (hsafe : (intAtanStep t i v.signed).Safe n)
    (hang : (atanStep t i v).ang.toInt = (intAtanStep t i v.signed).ang) :
    (atanStep t i v).signed = intAtanStep t i v.signed := by
  obtain ⟨hx0, hx, hy0, hy⟩ := hsafe
  have hpow : (0 : Int) < 2 ^ (30 - n) := by positivity
  rw [Rotation.signed, hang, atanStep_eq_words, IntRotation.words,
    BitVec.toInt_ofInt_eq_self (by decide) (by omega) (by omega),
    BitVec.toInt_ofInt_eq_self (by decide) (by omega) (by omega)]

/-- From a safe start the 32-bit loop is the one on mathematical integers, at every iteration. -/
theorem atanLoop_signed (t : AtanTable) {v : Rotation} (hang : v.ang = 0#32) (hsafe : v.signed.Safe 0) (n : Nat) :
    (atanLoop t v n).signed = intAtanLoop t v.signed n := by
  induction n with
  | zero => rw [atanLoop_zero, intAtanLoop_zero]
  | succ n ih =>
    obtain h | h := lt_or_ge n 13
    · have hnext := intAtanLoop_safe t hsafe (n + 1)
      have hacc := atanLoop_succ_ang_toInt t hang h
      rw [intAtanLoop_succ t _ h, ← ih] at hnext ⊢
      rw [atanLoop_succ t v h] at hacc ⊢
      exact atanStep_signed hnext hacc
    · rw [atanLoop_beyond h, intAtanLoop_beyond h, ih]

/-! The reduction and the correction of the safe domain. -/

theorem ne_minimum_of_abs_le {v : Word} (h : |v.toInt| ≤ 2 ^ 29) : v ≠ 0x80000000#32 := by
  rintro rfl
  exact absurd h (by decide)

theorem reduceStart_signed {y x : Word} (hy : |y.toInt| ≤ 2 ^ 29) (hx : |x.toInt| ≤ 2 ^ 29) :
    (reduceStart y x).signed = ⟨|x.toInt|, |y.toInt|, 0⟩ := by
  rw [Rotation.signed, reduceStart, reduceComponent_toInt (ne_minimum_of_abs_le hx),
    reduceComponent_toInt (ne_minimum_of_abs_le hy), BitVec.toInt_zero]

/-- The correction of an accumulator within the table's sum does not wrap. -/
theorem correct_toInt (q : BitVec 2) {a : Word} (hlo : -2 ^ 30 ≤ a.toInt) (hhi : a.toInt ≤ 2 ^ 30) :
    (correct q a).toInt = intCorrect q a.toInt := by
  obtain ⟨hfitsLo, hfitsHi⟩ : -2 ^ 31 ≤ intCorrect q a.toInt ∧ intCorrect q a.toInt < 2 ^ 31 := by
    unfold intCorrect
    split <;> omega
  rw [correct_eq_ofInt]
  exact BitVec.toInt_ofInt_eq_self (by decide) hfitsLo hfitsHi

/-- Settles O36: the magnitudes are a safe start, and the accumulator is within the table's sum. -/
theorem atan2SafeDomainDoesNotWrap : Obligations.Atan2SafeDomainDoesNotWrap := by
  unfold Obligations.Atan2SafeDomainDoesNotWrap
  intro t y x hy hx
  have hstart := reduceStart_signed hy hx
  have hsafe : (reduceStart y x).signed.Safe 0 := by
    rw [hstart]
    exact ⟨abs_nonneg _, hx.trans (by decide), le_trans (by decide) (abs_nonneg _), hy⟩
  have hloop (n : Nat) : (atanLoop t (reduceStart y x) n).signed = intAtanLoop t ⟨|x.toInt|, |y.toInt|, 0⟩ n :=
    hstart ▸ atanLoop_signed t rfl hsafe n
  refine ⟨hloop, ?_⟩
  obtain ⟨hlo, hhi⟩ := atanLoop_ang_small t (v := reduceStart y x) rfl 13
  have hang := congrArg IntRotation.ang (hloop 13)
  rw [Rotation.signed] at hang
  rw [atan2F_eq, correct_toInt _ hlo hhi, ← hang]

end Sys2Proof.Machine

/-!
SUPPORT. `ATAN2` on the registers: the command as a whole (41 R115) and edge by edge (41 R123).
-/

namespace Sys2Proof.Machine

variable {s : State} {p : Pins}

/-- Settles O18: the completed state is read off field by field, with the loop's value generalised. -/
theorem atan2Result : Obligations.Atan2Result := by
  unfold Obligations.Atan2Result
  refine ⟨fun s y x hb => ⟨_, exec_atan2_ready y x hb, ?_⟩, atan2F_eq,
    fun t v => ⟨atanLoop_zero t v, fun n h => atanLoop_succ t v h⟩, by decide, by decide +kernel, by decide +kernel⟩
  rw [atan2F_eq]
  generalize atanLoop s.atanTable (reduceStart y x) 13 = v
  simp [Finished, Latched, SameSurroundings, SameRootPair, Instr.op, Instr.a, Instr.b, State.rotation]

/-- The latches still hold the command they stand for. -/
theorem latched_self (s : State) : Latched s.latched s :=
  ⟨(ofFields_op ..).symm, (ofFields_a ..).symm, (ofFields_b ..).symm⟩

theorem clockEdge_accept_atan2 (y x : Word) (hb : s.busy = false) :
    clockEdge (Pins.present 3#3 y x) s = .next (s.atan2After y x 0) :=
  acceptStep_eq_atan2After ▸ clockEdge_accept rfl hb rfl

/-- What an `ATAN2` in flight leaves alone. -/
theorem atan2After_frame (y x : Word) (n : Nat) :
    SameResults s (s.atan2After y x n) ∧ SameRootPair s (s.atan2After y x n) ∧
    SameSurroundings s (s.atan2After y x n) := by
  simp [State.atan2After, SameResults, SameRootPair, SameSurroundings]

/-- Settles O12: each edge is its row of the step table; the run of iterate edges walks along `State.atan2After`. -/
theorem atan2MicroSteps : Obligations.Atan2MicroSteps := by
  unfold Obligations.Atan2MicroSteps
  refine ⟨rfl, fun s y x hb => ⟨_, clockEdge_accept_atan2 y x hb, ?_⟩,
    fun s p h hr hb ho => ⟨_, clockEdge_iterate hr hb (ho ▸ h), ?_⟩,
    fun s p hr hb ho hc => ⟨_, clockEdge_complete hr hb (.inr (ho ▸ hc)), ?_⟩,
    fun s y x ps hb hr hl => ⟨s.atan2After y x ps.length, ?_, ?_⟩⟩
  · exact ⟨rfl, rfl, rfl, rfl, rfl, rfl, rfl, rfl, rfl, rfl, atan2After_frame y x 0⟩
  · have hcnt : (s.cnt + 1#5).toNat = s.cnt.toNat + 1 := cnt_succ_toNat (by omega)
    obtain ⟨hop, ha, hb'⟩ := latched_self s
    rw [iterateStep_atan2 ho h]
    generalize atanStep s.atanTable ⟨s.cnt.toNat, h⟩ s.rotation = v
    simp [State.rotation, hcnt, hb, Latched, ← hop, ← ha, ← hb', SameResults, SameRootPair, SameSurroundings]
  · obtain ⟨hop, ha, hb'⟩ := latched_self s
    rw [completeStep_atan2 ho]
    simp [Latched, ← hop, ← ha, ← hb', SameRotation, SameRootPair, SameSurroundings]
  · have hwalk := clockEdges_along (f := s.atan2After y x) (N := 13) (k := 0) (fun _ hn _ => clockEdge_atan2After hn)
      hr (by omega)
    rw [clockEdges_cons (clockEdge_accept_atan2 y x hb), hwalk, Nat.zero_add]
  · obtain ⟨hresults, -⟩ := atan2After_frame (s := s) y x ps.length
    exact ⟨State.atan2After_rotation _, State.atan2After_quad _, State.atan2After_cnt_toNat hl,
      State.atan2After_busy _, hresults⟩

end Sys2Proof.Machine

/-!
SUPPORT. `ISQRT`: one iteration in natural arithmetic (42 R132), the loop's invariant (42 R134, R135), and the command
as a whole and edge by edge (42 R133, R137).
-/

namespace Sys2Proof.Machine

/-! One iteration in natural arithmetic (42 R132). -/

section SqrtStep
variable {i : Nat} {v : RootPair}

/-- `temp`, and the new root on success, as numbers: both add the bit of the iteration. -/
theorem add32_bit_toNat (a : Word) : (add32 a (1#32 <<< i)).toNat = (a.toNat + 2 ^ i) % 2 ^ 32 := by
  rw [add32, BitVec.toNat_add, ← BitVec.twoPow_eq, BitVec.toNat_twoPow, Nat.add_mod_mod]

theorem sqrtStep_success (h : (v.root.toNat + 2 ^ i) % 2 ^ 32 ≤ v.num.toNat) :
    (sqrtStep i v).num.toNat = v.num.toNat - (v.root.toNat + 2 ^ i) % 2 ^ 32 ∧
    (sqrtStep i v).root.toNat = (v.root.toNat / 2 + 2 ^ i) % 2 ^ 32 := by
  rw [← add32_bit_toNat v.root] at h ⊢
  rw [sqrtStep, if_pos ((leUnsigned_iff _ _).mpr h)]
  refine ⟨BitVec.toNat_sub_of_le h, ?_⟩
  rw [add32_bit_toNat, lsr32_toNat, pow_one]

theorem sqrtStep_failure (h : v.num.toNat < (v.root.toNat + 2 ^ i) % 2 ^ 32) :
    (sqrtStep i v).num = v.num ∧ (sqrtStep i v).root.toNat = v.root.toNat / 2 := by
  rw [← add32_bit_toNat v.root] at h
  rw [sqrtStep, if_neg ((leUnsigned_iff _ _).not.mpr h.not_ge)]
  exact ⟨rfl, by rw [lsr32_toNat, pow_one]⟩

end SqrtStep

/-- Settles O37: the order is the loop's equation; the two outcomes of the test are a lemma each. -/
theorem isqrtRecurrenceStep : Obligations.IsqrtRecurrenceStep := by
  unfold Obligations.IsqrtRecurrenceStep
  exact ⟨fun v j _ => sqrtLoop_succ v j, fun _ _ _ => ⟨sqrtStep_success, sqrtStep_failure⟩⟩

/-! The loop invariant (42 R134, R135). -/

/-- Two more bits of the operand give one more bit of the root. -/
theorem sqrt_bounds_of_quarter (m : Nat) :
    2 * Nat.sqrt (m / 4) ≤ Nat.sqrt m ∧ Nat.sqrt m < 2 * Nat.sqrt (m / 4) + 2 := by
  have hlo : Nat.sqrt (m / 4) ^ 2 ≤ m / 4 := Nat.sqrt_le' _
  have hhi : m / 4 < (Nat.sqrt (m / 4) + 1) ^ 2 := Nat.lt_succ_sqrt' _
  constructor
  · rw [Nat.le_sqrt', mul_pow]
    omega
  · rw [Nat.sqrt_lt', ← Nat.mul_add_one, mul_pow]
    omega

/-- What the working registers hold when the root of `n / 2^i` has been found: that root, scaled by `2^i`, and the
remainder (42 R135). -/
structure RootPair.IsRootAt (v : RootPair) (n i : Nat) : Prop where
  root : v.root.toNat = Nat.sqrt (n / 2 ^ i) * 2 ^ i
  num : v.num.toNat + Nat.sqrt (n / 2 ^ i) ^ 2 * 2 ^ i = n

section IsRootAt
variable {n i : Nat} {v : RootPair}

theorem sqrtStart_isRootAt (n : Word) : (sqrtStart n).IsRootAt n.toNat 32 := by
  have hzero : Nat.sqrt (n.toNat / 2 ^ 32) = 0 := by rw [Nat.div_eq_of_lt n.isLt, Nat.sqrt_zero]
  exact ⟨by rw [hzero, Nat.zero_mul]; rfl, by rw [hzero, Nat.zero_pow two_pos, Nat.zero_mul]; rfl⟩

/-- `temp` does not wrap: the root register is a multiple of `2^(i+2)` below `2^32`, so there is room for `2^i`. -/
theorem RootPair.IsRootAt.temp_lt (h : v.IsRootAt n (i + 2)) (hi : i ≤ 30) : v.root.toNat + 2 ^ i < 2 ^ 32 := by
  have hroot : Nat.sqrt (n / 2 ^ (i + 2)) * 2 ^ (i + 2) < 2 ^ (30 - i) * 2 ^ (i + 2) := by
    rw [← h.root, ← pow_add, show 30 - i + (i + 2) = 32 by omega]
    exact v.root.isLt
  have hroom : (Nat.sqrt (n / 2 ^ (i + 2)) + 1) * 2 ^ (i + 2) ≤ 2 ^ (30 - i) * 2 ^ (i + 2) :=
    Nat.mul_le_mul_right _ (Nat.lt_of_mul_lt_mul_right hroot)
  rw [← pow_add, show 30 - i + (i + 2) = 32 by omega, add_mul, one_mul, ← h.root, pow_add] at hroom
  have : 0 < 2 ^ i := by positivity
  omega

/-- The test of the iteration asks whether the next bit of the root is 1. -/
theorem RootPair.IsRootAt.temp_le_iff (h : v.IsRootAt n (i + 2)) :
    v.root.toNat + 2 ^ i ≤ v.num.toNat ↔ 2 * Nat.sqrt (n / 2 ^ (i + 2)) + 1 ≤ Nat.sqrt (n / 2 ^ i) := by
  obtain ⟨hroot, hnum⟩ := h
  rw [Nat.le_sqrt', Nat.le_div_iff_mul_le (by positivity), hroot]
  generalize Nat.sqrt (n / 2 ^ (i + 2)) = r at hnum ⊢
  rw [pow_add] at hnum ⊢
  constructor
  · intro hle; linarith
  · intro hle; linarith

/-- One iteration finds one more bit of the root (42 R135). -/
theorem RootPair.IsRootAt.step (h : v.IsRootAt n (i + 2)) (hi : i ≤ 30) : (sqrtStep i v).IsRootAt n i := by
  have htemp := h.temp_lt hi
  have htest := h.temp_le_iff
  have hquarter : n / 2 ^ i / 4 = n / 2 ^ (i + 2) := by rw [Nat.div_div_eq_div_mul, pow_add]; rfl
  obtain ⟨hlo, hhi⟩ := sqrt_bounds_of_quarter (n / 2 ^ i)
  rw [hquarter] at hlo hhi
  obtain ⟨hroot, hnum⟩ := h
  generalize Nat.sqrt (n / 2 ^ (i + 2)) = r at *
  rw [pow_add] at hroot hnum
  have hhalf : v.root.toNat / 2 = 2 * r * 2 ^ i := Nat.div_eq_of_eq_mul_left two_pos (by rw [hroot]; ring)
  obtain hle | hlt := le_or_gt (v.root.toNat + 2 ^ i) v.num.toNat
  · have hbit : Nat.sqrt (n / 2 ^ i) = 2 * r + 1 := by
      have := htest.mp hle
      omega
    obtain ⟨hnum', hroot'⟩ := sqrtStep_success ((Nat.mod_le _ _).trans hle)
    rw [Nat.mod_eq_of_lt htemp] at hnum'
    rw [Nat.mod_eq_of_lt (by omega), hhalf] at hroot'
    constructor
    · rw [hroot', hbit]; ring
    · have hsub : (sqrtStep i v).num.toNat + (v.root.toNat + 2 ^ i) = v.num.toNat := by omega
      rw [hbit]; linarith
  · have hbit : Nat.sqrt (n / 2 ^ i) = 2 * r := by
      have := htest.not.mp hlt.not_ge
      omega
    obtain ⟨hnum', hroot'⟩ := sqrtStep_failure (hlt.trans_eq (Nat.mod_eq_of_lt htemp).symm)
    constructor
    · rw [hroot', hhalf, hbit]
    · rw [hnum', hbit]; linarith

/-- After `j` iterations the next bit position is `30 - 2*j`, and the root of `n / 2^(32 - 2*j)` has been found. -/
theorem sqrtLoop_isRootAt (n : Word) {j : Nat} (hj : j ≤ 16) :
    (sqrtLoop (sqrtStart n) j).IsRootAt n.toNat (32 - 2 * j) := by
  induction j with
  | zero => rw [sqrtLoop_zero]; exact sqrtStart_isRootAt n
  | succ j ih =>
    have hbefore := ih (by omega)
    rw [show 32 - 2 * j = 30 - 2 * j + 2 by omega] at hbefore
    rw [sqrtLoop_succ, show 32 - 2 * (j + 1) = 30 - 2 * j by omega]
    exact hbefore.step (by omega)

end IsRootAt

/-- Settles O38: the invariant before and after the iteration at `30 - 2*j`. -/
theorem isqrtLoopInvariant : Obligations.IsqrtLoopInvariant := by
  unfold Obligations.IsqrtLoopInvariant
  intro n j hj
  have hbefore := sqrtLoop_isRootAt n hj.le
  have hafter := sqrtLoop_isRootAt n (j := j + 1) hj
  rw [show 32 - 2 * j = 30 - 2 * j + 2 by omega] at hbefore
  rw [show 32 - 2 * (j + 1) = 30 - 2 * j by omega] at hafter
  exact ⟨Dvd.intro_left _ hbefore.root.symm, hbefore.temp_lt (by omega), hafter.root, hafter.num⟩

/-! `ISQRT_F` is the integer square root (42 R130, R135). -/

theorem isqrtF_toNat (n : Word) : (isqrtF n).toNat = Nat.sqrt n.toNat := by
  rw [isqrtF_eq, result_eq, (sqrtLoop_isRootAt n le_rfl).root]
  simp

theorem sqrtLoop_remainder (n : Word) :
    (sqrtLoop (sqrtStart n) 16).num.toNat + (isqrtF n).toNat * (isqrtF n).toNat = n.toNat := by
  have hnum := (sqrtLoop_isRootAt n le_rfl).num
  rw [isqrtF_toNat, ← pow_two]
  simpa using hnum

theorem isqrtF_le (n : Word) : (isqrtF n).toNat ≤ 65535 := by
  have hlt : Nat.sqrt n.toNat < 65536 := Nat.sqrt_lt.mpr n.isLt
  rw [isqrtF_toNat]
  omega

/-- Settles O39: `ISQRT_F` is `Nat.sqrt`, whose laws these are. -/
theorem isqrtIsFloorSquareRoot : Obligations.IsqrtIsFloorSquareRoot := by
  unfold Obligations.IsqrtIsFloorSquareRoot
  simp only [isqrtF_toNat]
  exact ⟨by decide +kernel, by decide +kernel, by decide +kernel,
    fun n => ⟨Nat.sqrt_le _, fun _ hr => Nat.le_sqrt.mpr hr⟩, fun _ _ h => Nat.sqrt_le_sqrt h⟩

/-! The command on the registers (42 R133, R137). -/

/-- The registers of a completed `ISQRT`, for any value of the loop. -/
theorem finishIsqrt_registers (s : State) (n b : Word) (v : RootPair) :
    ((s.latch 4#3 n b).finishIsqrt v).r0 = v.result ∧ ((s.latch 4#3 n b).finishIsqrt v).r1 = s.r1 ∧
    Finished (.isqrt n b) false s ((s.latch 4#3 n b).finishIsqrt v) ∧
    ((s.latch 4#3 n b).finishIsqrt v).rootPair = v ∧ ((s.latch 4#3 n b).finishIsqrt v).cnt = 16#5 ∧
    SameRotation s ((s.latch 4#3 n b).finishIsqrt v) := by
  simp [Finished, Latched, SameSurroundings, SameRotation, Instr.op, Instr.a, Instr.b, State.rootPair]

/-- Settles O19: the completed state by its registers, the bound and the remainder by the loop's invariant; the corner
cases and the worked example run the loop. -/
theorem isqrtResult : Obligations.IsqrtResult := by
  unfold Obligations.IsqrtResult
  refine ⟨fun s n b hb => ⟨_, exec_isqrt_ready n b hb, ?_⟩, fun v => ⟨sqrtLoop_zero v, sqrtLoop_succ v⟩,
    fun n => ⟨rfl, isqrtF_eq n, isqrtF_le n⟩, sqrtLoop_remainder, by decide +kernel⟩
  rw [isqrtF_eq]
  exact finishIsqrt_registers s n b _

theorem clockEdge_accept_isqrt {s : State} (n b : Word) (hb : s.busy = false) :
    clockEdge (Pins.present 4#3 n b) s = .next (s.isqrtAfter n b 0) :=
  acceptStep_eq_isqrtAfter ▸ clockEdge_accept rfl hb rfl

/-- What an `ISQRT` in flight leaves alone. -/
theorem isqrtAfter_frame {s : State} (n b : Word) (j : Nat) :
    SameResults s (s.isqrtAfter n b j) ∧ SameRotation s (s.isqrtAfter n b j) ∧
    SameSurroundings s (s.isqrtAfter n b j) := by
  simp [State.isqrtAfter, SameResults, SameRotation, SameSurroundings]

/-- Settles O13: each edge is its row of the step table; the run of iterate edges walks along `State.isqrtAfter`. -/
theorem isqrtMicroSteps : Obligations.IsqrtMicroSteps := by
  unfold Obligations.IsqrtMicroSteps
  refine ⟨rfl, fun s n b hb => ⟨_, clockEdge_accept_isqrt n b hb, ?_⟩,
    fun s p hr hb ho hc => ⟨_, clockEdge_iterate hr hb (ho ▸ hc), ?_⟩,
    fun s p hr hb ho hc => ⟨_, clockEdge_complete hr hb (.inr (ho ▸ hc)), ?_⟩,
    fun s n b ps hb hr hl => ⟨s.isqrtAfter n b ps.length, ?_, ?_⟩⟩
  · exact ⟨rfl, rfl, rfl, rfl, rfl, rfl, rfl, rfl, isqrtAfter_frame n b 0⟩
  · obtain ⟨hop, ha, hb'⟩ := latched_self s
    rw [iterateStep_isqrt ho]
    generalize sqrtStep (30 - 2 * s.cnt.toNat) s.rootPair = v
    simp [State.rootPair, cnt_succ_toNat hc, hb, Latched, ← hop, ← ha, ← hb', SameResults, SameRotation,
      SameSurroundings]
  · obtain ⟨hop, ha, hb'⟩ := latched_self s
    rw [completeStep_isqrt ho]
    simp [Latched, ← hop, ← ha, ← hb', SameRotation, SameRootPair, SameSurroundings]
  · have hwalk := clockEdges_along (f := s.isqrtAfter n b) (N := 16) (k := 0) (fun _ hn _ => clockEdge_isqrtAfter hn)
      hr (by omega)
    rw [clockEdges_cons (clockEdge_accept_isqrt n b hb), hwalk, Nat.zero_add]
  · obtain ⟨hresults, -⟩ := isqrtAfter_frame (s := s) n b ps.length
    exact ⟨State.isqrtAfter_rootPair _, State.isqrtAfter_cnt_toNat hl, State.isqrtAfter_busy _, hresults⟩

end Sys2Proof.Machine

/-!
PROOF. The scalar helpers that select one of their arguments, outside the block (43 R147 to R149).
-/

namespace Sys2Proof.Machine

/-! `sign` (43 R147). -/

theorem helperSign_of_neg {a : Word} (h : a.toInt < 0) : helperSign a = -1 := if_pos h

theorem helperSign_of_nonneg {a : Word} (h : 0 ≤ a.toInt) : helperSign a = 1 := if_neg h.not_gt

/-! `min` and `max` (43 R148). -/

theorem helperMin_eq_min (a b : Int) : helperMin a b = min a b := (min_def a b).symm

theorem helperMax_eq_max (a b : Int) : helperMax a b = max a b := (max_def a b).symm

/-! `clamp` with its bounds the right way round (43 R149). -/

section
variable {a hi lo : Int}

theorem helperClamp_of_hi_lt (h : lo ≤ hi) (ha : hi < a) : helperClamp a hi lo = hi := by
  rw [helperClamp, if_neg h.not_gt, if_pos ha]

theorem helperClamp_of_lt_lo (h : lo ≤ hi) (ha : a < lo) : helperClamp a hi lo = lo := by
  rw [helperClamp, if_neg h.not_gt, if_neg (ha.trans_le h).not_gt, if_pos ha]

theorem helperClamp_of_between (hlo : lo ≤ a) (hhi : a ≤ hi) : helperClamp a hi lo = a := by
  rw [helperClamp, if_neg (hlo.trans hhi).not_gt, if_neg hhi.not_gt, if_neg hlo.not_gt]

/-- The rule's three cases are one nested minimum and maximum. -/
theorem helperClamp_eq_max_min (h : lo ≤ hi) : helperClamp a hi lo = max lo (min a hi) := by
  rcases lt_or_ge hi a with ha | hhi
  · rw [helperClamp_of_hi_lt h ha, min_eq_right ha.le, max_eq_right h]
  rw [min_eq_left hhi]
  rcases lt_or_ge a lo with ha | hlo
  · rw [helperClamp_of_lt_lo h ha, max_eq_left ha.le]
  · rw [helperClamp_of_between hlo hhi, max_eq_right hlo]

end

/-- Settles O53: one lemma per helper. -/
theorem scalarHelpersSelect : Obligations.ScalarHelpersSelect := by
  unfold Obligations.ScalarHelpersSelect
  exact ⟨fun _ => ⟨helperSign_of_neg, helperSign_of_nonneg⟩,
    fun a b => ⟨helperMin_eq_min a b, helperMax_eq_max a b⟩, fun _ _ _ => helperClamp_eq_max_min⟩

end Sys2Proof.Machine

/-!
PROOF. The reserved codes 5, 6 and 7: `IllegalOp` at both levels, and the command after it (30 R75, 60 R160).
-/

namespace Sys2Proof.Machine

variable {s : State} {p : Pins} {op : BitVec 3} {a b : Word}

/-- A reserved code has no loop. -/
theorem iterations_reserved (h : 5 ≤ op.toNat) : iterations op = 0 := by
  obtain rfl | rfl | rfl := op_reserved h <;> rfl

/-- A reserved command on an idle block is latched and raises `IllegalOp` (60 R160). -/
theorem exec_reserved_ready {i : Instr} (h : 5 ≤ i.op.toNat) (hb : s.busy = false) :
    exec i s = .next (s.latch i.op i.a i.b).raiseIllegalOp := by
  have hexec := exec_noLoop_ready (a := i.a) (b := i.b) hb (iterations_reserved h)
  rwa [ofFields_eta, completeStep_reserved h] at hexec

theorem clockEdge_accept_reserved (a b : Word) (h : 5 ≤ op.toNat) (hb : s.busy = false) :
    clockEdge (Pins.present op a b) s = .next (s.latch op a b) :=
  acceptStep_noLoop a b (iterations_reserved h) ▸ clockEdge_accept rfl hb rfl

/-- The edge after the accept edge of a reserved command raises `IllegalOp` (60 R160). -/
theorem clockEdge_latch_reserved (h : 5 ≤ op.toNat) (hr : p.rst = false) :
    clockEdge p (s.latch op a b) = .next (s.latch op a b).raiseIllegalOp :=
  completeStep_reserved (s := s.latch op a b) h ▸ clockEdge_noLoop (iterations_reserved h) hr

/-- A reserved command on an idle block writes the latches, the flags and the pulse alone (60 R160). -/
theorem exec_reserved_frame {i : Instr} (h : 5 ≤ i.op.toNat) (hb : s.busy = false) :
    ∃ t, exec i s = .next t ∧ t.r0 = s.r0 ∧ t.r1 = s.r1 ∧ Finished i true s t ∧ SameRotation s t ∧
      SameRootPair s t ∧ t.cnt = s.cnt :=
  ⟨_, exec_reserved_ready h hb, by simp [Finished, Latched, SameSurroundings, SameRotation, SameRootPair]⟩

/-- `EXEC` of a legal command clears `ILL` (10 R25). -/
theorem execArch_ill_of_legal {i : Instr} (sinT : SinTable) (atanT : AtanTable) (c : Arch) (h : i.isLegal) :
    (execArch sinT atanT c i).ill = false := by
  cases i with
  | sincos a b => rfl
  | sin a b => rfl
  | cos a b => rfl
  | atan2 a b => rfl
  | isqrt a b => rfl
  | illegal5 a b => simp [Instr.op] at h
  | illegal6 a b => simp [Instr.op] at h
  | illegal7 a b => simp [Instr.op] at h

/-- Any command runs on an idle block, and a legal one leaves `ILL` clear whatever it was. -/
theorem exec_ill_of_legal (i : Instr) (hb : s.busy = false) :
    ∃ t, exec i s = .next t ∧ (i.isLegal → t.ill = false) := by
  obtain ⟨t, ht, harch⟩ := exec_arch i hb
  exact ⟨t, ht, fun h => (congrArg Arch.ill harch).trans (execArch_ill_of_legal _ _ _ h)⟩

/-- Settles O20: a reserved command latches and raises `IllegalOp`, in one step or in two edges; the block is then idle,
so the next command runs. -/
theorem reservedCodeResult : Obligations.ReservedCodeResult := by
  unfold Obligations.ReservedCodeResult
  refine ⟨fun s a b i hi hb => ?_, fun s op a b p hop hb hr => ?_⟩
  · have hop : 5 ≤ i.op.toNat := by obtain rfl | rfl | rfl := hi <;> simp [Instr.op]
    obtain ⟨t, ht, hr0, hr1, ⟨hlatched, hill, hbusy, hdone⟩, hrotation, hrootPair, hcnt⟩ := exec_reserved_frame hop hb
    exact ⟨t, ht, hr0, hr1, ⟨hlatched, hill, hbusy, hdone⟩, hrotation, hrootPair, hcnt,
      fun j => exec_ill_of_legal j hbusy⟩
  · exact ⟨_, _, clockEdge_accept_reserved a b hop hb, rfl, rfl, rfl, rfl, clockEdge_latch_reserved hop hr,
      rfl, rfl, rfl, rfl, rfl⟩

end Sys2Proof.Machine

/-!
PROOF. Reset and hazards (70 R180 to R188): the rows of the step table that start or clear, the block while it is busy,
where an edge stops, and how a command in flight comes to its end.
-/

namespace Sys2Proof.Machine

variable {s t : State} {p q : Pins} {ps : List Pins} {op : BitVec 3}

/-! The reset, idle and accept rows (70 R180, R183). -/

/-- Settles O6: the host's next action is that edge, or there is none. -/
theorem stepDrivesClockEdges : Obligations.StepDrivesClockEdges :=
  ⟨fun _ _ _ h => step_edge h, fun _ h => step_nothingAsked h⟩

/-- Settles O8: reset comes before every other row, and its values are those of `State.resetStep`. -/
theorem resetStepFromAnyState : Obligations.ResetStepFromAnyState :=
  fun _ _ hr => ⟨_, clockEdge_reset hr, rfl, rfl, rfl, rfl, rfl, rfl, rfl, rfl⟩

/-- Settles O9: the idle row is `State.clearDone`. -/
theorem idleEdgeOnlyClearsDone : Obligations.IdleEdgeOnlyClearsDone :=
  fun _ _ hr hb hv => clockEdge_idle hr hb hv

theorem acceptStep_latches (op : BitVec 3) (a b : Word) :
    (s.acceptStep op a b).op = op ∧ (s.acceptStep op a b).a = a ∧ (s.acceptStep op a b).b = b := by
  obtain ⟨rfl, -⟩ | ⟨rfl, -⟩ | ⟨-, -, h0⟩ := iterations_cases op
  · simp [acceptStep_atan2]
  · simp [acceptStep_isqrt]
  · simp [acceptStep_noLoop a b h0]

/-- `ATAN2` alone has its working registers written at its accept step (41 R123). -/
theorem acceptStep_sameRotation (a b : Word) (h : op ≠ 3#3) : SameRotation s (s.acceptStep op a b) := by
  obtain ⟨rfl, -⟩ | ⟨rfl, -⟩ | ⟨-, -, h0⟩ := iterations_cases op
  · exact absurd rfl h
  · simp [acceptStep_isqrt, SameRotation]
  · simp [acceptStep_noLoop a b h0, SameRotation]

/-- `ISQRT` alone has its working registers written at its accept step (42 R137). -/
theorem acceptStep_sameRootPair (a b : Word) (h : op ≠ 4#3) : SameRootPair s (s.acceptStep op a b) := by
  obtain ⟨rfl, -⟩ | ⟨rfl, -⟩ | ⟨-, -, h0⟩ := iterations_cases op
  · simp [acceptStep_atan2, SameRootPair]
  · exact absurd rfl h
  · simp [acceptStep_noLoop a b h0, SameRootPair]

theorem acceptStep_cnt (a b : Word) (h3 : op ≠ 3#3) (h4 : op ≠ 4#3) : (s.acceptStep op a b).cnt = s.cnt := by
  obtain ⟨rfl, -⟩ | ⟨rfl, -⟩ | ⟨-, -, h0⟩ := iterations_cases op
  · exact absurd rfl h3
  · exact absurd rfl h4
  · rw [acceptStep_noLoop a b h0, State.latch_cnt]

/-- Settles O10: what the accept row writes by the operation code, and what every accept step leaves alone. -/
theorem acceptEdgeLatchesTheCommand : Obligations.AcceptEdgeLatchesTheCommand := by
  unfold Obligations.AcceptEdgeLatchesTheCommand
  intro s p hr hb hv
  obtain ⟨hop, ha, hb'⟩ := acceptStep_latches (s := s) p.cmdOp p.cmdA p.cmdB
  obtain ⟨hr0, hr1, hill, hbusy, hdone, hsurroundings⟩ := acceptStep_frame (s := s) p.cmdOp p.cmdA p.cmdB
  exact ⟨_, clockEdge_accept hr hb hv, hop, ha, hb', hbusy, hdone, ⟨hr0, hr1, hill⟩, hsurroundings,
    acceptStep_sameRotation p.cmdA p.cmdB, acceptStep_sameRootPair p.cmdA p.cmdB, acceptStep_cnt p.cmdA p.cmdB⟩

/-! The block while it is busy (70 R185). -/

/-- On a busy block an edge reads `rst` and no other input (70 R183). -/
theorem clockEdge_busy_congr (hb : s.busy = true) (h : p.rst = q.rst) : clockEdge p s = clockEdge q s := by
  rw [clockEdge, clockEdge, h, if_pos hb, if_pos hb]

/-- Settles O24: a command turned away is one edge, and of its inputs none is read. -/
theorem busyBlockTurnsCommandAway : Obligations.BusyBlockTurnsCommandAway :=
  fun i _ _ hb hr => (exec_turnedAway i hb).trans (clockEdge_busy_congr hb hr.symm)

/-- The edge that writes a result is the complete step, after which the block is idle (70 R185 (a)). -/
theorem sameResults_of_busy_after (h : clockEdge p s = .next t) (hr : p.rst = false) (hbusy : t.busy = true) :
    SameResults s t := by
  cases hb : s.busy with
  | false =>
    obtain ⟨-, -, hresults⟩ := clockEdge_onIdle h hr hb
    exact hresults
  | true =>
    by_cases hc : s.cnt.toNat < iterations s.op
    · obtain ⟨-, -, hresults⟩ := clockEdge_iterate_visible h hr hb hc
      exact hresults
    · obtain rfl := eq_completeStep_of_clockEdge h hr hb hc
      obtain ⟨hidle, -⟩ := completeStep_frame (s := s)
      exact absurd (hidle.symm.trans hbusy) Bool.false_ne_true

/-- Settles O43: the three ports are the three result registers. -/
theorem portsKeepOldResultsWhileBusy : Obligations.PortsKeepOldResultsWhileBusy :=
  fun _ _ _ h hr hbusy => sameResults_of_busy_after h hr hbusy

/-! Where an edge stops (70 R183; log 8). -/

/-- On a busy block whose counter is not above its loop, an edge without reset is the iterate or the complete step. -/
theorem clockEdge_busy_cases (hr : p.rst = false) (hb : s.busy = true)
    (hc : iterations s.op = 0 ∨ s.cnt.toNat ≤ iterations s.op) :
    (s.cnt.toNat < iterations s.op ∧ clockEdge p s = .next s.iterateStep) ∨
    ((iterations s.op = 0 ∨ s.cnt.toNat = iterations s.op) ∧ clockEdge p s = .next s.completeStep) := by
  by_cases hlt : s.cnt.toNat < iterations s.op
  · exact .inl ⟨hlt, clockEdge_iterate hr hb hlt⟩
  · have hover : iterations s.op = 0 ∨ s.cnt.toNat = iterations s.op := by omega
    exact .inr ⟨hover, clockEdge_complete hr hb hover⟩

/-- Every edge answers a next state if on a busy block the counter is not above its loop. -/
theorem clockEdge_answers (p : Pins)
    (h : p.rst = false → s.busy = true → iterations s.op = 0 ∨ s.cnt.toNat ≤ iterations s.op) :
    ∃ t, clockEdge p s = .next t := by
  cases hr : p.rst with
  | true => exact ⟨_, clockEdge_reset hr⟩
  | false =>
    cases hb : s.busy with
    | true =>
      obtain ⟨-, hedge⟩ | ⟨-, hedge⟩ := clockEdge_busy_cases hr hb (h hr hb)
      · exact ⟨_, hedge⟩
      · exact ⟨_, hedge⟩
    | false =>
      cases hv : p.cmdValid with
      | true => exact ⟨_, clockEdge_accept hr hb hv⟩
      | false => exact ⟨_, clockEdge_idle hr hb hv⟩

/-- Settles O50: the stuck row faults, and an edge outside it answers a next state, so faults nowhere else. -/
theorem faultExactlyBeyondTheLoop : Obligations.FaultExactlyBeyondTheLoop := by
  unfold Obligations.FaultExactlyBeyondTheLoop
  intro p s
  have hanswers : ¬ (p.rst = false ∧ s.busy = true ∧ iterations s.op ≠ 0 ∧ iterations s.op < s.cnt.toNat) →
      ∃ t, clockEdge p s = .next t := fun hn => clockEdge_answers p fun hr hb => by
    by_contra hc
    exact hn ⟨hr, hb, by omega, by omega⟩
  refine ⟨⟨fun hfault => ?_, fun ⟨hr, hb, h0, hc⟩ => clockEdge_stuck hr hb h0 hc⟩, hanswers⟩
  by_contra hn
  obtain ⟨t, ht⟩ := hanswers hn
  cases hfault.symm.trans ht

/-- The command in flight has its counter within its loop. -/
theorem cnt_le_of_inFlight (hf : s.InFlight) (hb : s.busy = true) :
    iterations s.op = 0 ∨ s.cnt.toNat ≤ iterations s.op := by
  obtain ⟨ho, hn⟩ | ⟨ho, hn⟩ | ⟨-, -, hn⟩ := iterations_cases s.op
  · obtain ⟨hcnt, -⟩ := (inFlight_atan2_iff ho).mp hf hb
    exact .inr (hn ▸ hcnt)
  · obtain ⟨hcnt, -⟩ := (inFlight_isqrt_iff ho).mp hf hb
    exact .inr (hn ▸ hcnt)
  · exact .inl hn

theorem clockEdge_answers_of_inv (p : Pins) (hinv : s.Inv) : ∃ t, clockEdge p s = .next t := by
  obtain ⟨hf, -⟩ := hinv
  exact clockEdge_answers p fun _ hb => cnt_le_of_inFlight hf hb

theorem exec_answers_of_inv (i : Instr) (hinv : s.Inv) : ∃ t, exec i s = .next t := by
  cases hb : s.busy with
  | true => exact exec_turnedAway i hb ▸ clockEdge_answers_of_inv _ hinv
  | false =>
    obtain ⟨t, ht, -⟩ := exec_ready i hb
    exact ⟨t, ht⟩

/-- Settles O49: a step is one clock edge or one command, by what the host asks for, and each answers. -/
theorem invariantStepAnswersNext : Obligations.InvariantStepAnswersNext := by
  unfold Obligations.InvariantStepAnswersNext
  intro s hinv
  cases hhost : s.host with
  | nil => exact step_nothingAsked hhost ▸ clockEdge_answers_of_inv _ hinv
  | cons action rest =>
    cases action with
    | edge p => exact step_edge hhost ▸ clockEdge_answers_of_inv p (inv_withHost hinv rest)
    | command op a b =>
      cases hbusy : s.busy with
      | true => exact step_command_busy hhost hbusy ▸ exec_answers_of_inv _ hinv
      | false => exact step_command_ready hhost hbusy ▸ exec_answers_of_inv _ (inv_withHost hinv rest)

/-! Commands come to their end (70 R184, R186, R188). -/

/-- Settles O21: `exec` refines `EXEC` on an idle block. -/
theorem everyCommandRunsWhenReady : Obligations.EveryCommandRunsWhenReady :=
  fun i _ hb => exec_completes i hb

/-- The edges the command in flight still takes, the one of its complete step included (70 R186). -/
def State.edgesLeft (s : State) : Nat := if iterations s.op = 0 then 1 else latency s.op - s.cnt.toNat

theorem iterations_le (op : BitVec 3) : iterations op ≤ 16 := by
  revert op; decide

theorem edgesLeft_le (s : State) : s.edgesLeft ≤ 17 := by
  have hn : iterations s.op ≤ 16 := iterations_le s.op
  rw [State.edgesLeft, latency]
  split <;> omega

theorem edgesLeft_pos (hf : s.InFlight) (hb : s.busy = true) : 0 < s.edgesLeft := by
  have hc := cnt_le_of_inFlight hf hb
  rw [State.edgesLeft, latency]
  split <;> omega

theorem edgesLeft_eq_one (hc : iterations s.op = 0 ∨ s.cnt.toNat = iterations s.op) : s.edgesLeft = 1 := by
  rw [State.edgesLeft, latency]
  split <;> omega

/-- An iterate step counts one up, so that one edge less is left. -/
theorem iterateStep_cnt (hc : s.cnt.toNat < iterations s.op) : s.iterateStep.cnt.toNat = s.cnt.toNat + 1 := by
  obtain ⟨ho, hn⟩ | ⟨ho, hn⟩ | ⟨-, -, hn⟩ := iterations_cases s.op
  · rw [iterateStep_atan2 ho (hn ▸ hc), State.clearDone_cnt, State.setCount_cnt, cnt_succ_toNat (by omega)]
  · rw [iterateStep_isqrt ho, State.clearDone_cnt, State.setCount_cnt, cnt_succ_toNat (by omega)]
  · omega

theorem edgesLeft_iterateStep (hc : s.cnt.toNat < iterations s.op) : s.edgesLeft = s.iterateStep.edgesLeft + 1 := by
  obtain ⟨-, -, -, -, hop, -⟩ := iterateStep_frame (s := s)
  rw [State.edgesLeft, State.edgesLeft, hop, iterateStep_cnt hc, latency, if_neg (by omega), if_neg (by omega)]
  omega

/-- An iterate step keeps all that `EXEC` of the latched command is a function of. -/
theorem execArch_iterateStep :
    execArch s.iterateStep.sinTable s.iterateStep.atanTable s.iterateStep.arch s.iterateStep.latched =
      execArch s.sinTable s.atanTable s.arch s.latched := by
  obtain ⟨hr0, hr1, hill, -, hop, ha, hb, -, hsin, hatan, -⟩ := iterateStep_frame (s := s)
  rw [State.arch, State.latched, hr0, hr1, hill, hop, ha, hb, hsin, hatan, State.arch, State.latched]

/-- A busy block without a pulse is the idle block that has its registers, with its own command just latched. -/
theorem eq_latch_of_busy (hp : s.PulseOk) (hb : s.busy = true) : s = { s with busy := false }.latch s.op s.a s.b :=
  State.eq_of_fields rfl rfl rfl hb (hp hb) rfl rfl rfl rfl rfl rfl rfl rfl rfl rfl rfl rfl rfl rfl

/-- The complete step of a command in flight whose loop is over delivers the result of its `EXEC` (70 R184). -/
theorem completeStep_arch (hf : s.InFlight) (hp : s.PulseOk) (hb : s.busy = true)
    (hc : iterations s.op = 0 ∨ s.cnt.toNat = iterations s.op) :
    s.completeStep.arch = execArch s.sinTable s.atanTable s.arch s.latched := by
  obtain ⟨ho, hn⟩ | ⟨ho, hn⟩ | ⟨-, -, h0⟩ := iterations_cases s.op
  · obtain ⟨-, hquad, hrot⟩ := (inFlight_atan2_iff ho).mp hf hb
    have hcnt : s.cnt.toNat = 13 := by omega
    have hang : s.ang = (atanLoop s.atanTable (reduceStart s.a s.b) 13).ang := hcnt ▸ congrArg Rotation.ang hrot
    rw [completeStep_atan2 ho, latched_atan2 ho, execArch, atan2F_eq, ← hquad, ← hang]
    rfl
  · obtain ⟨-, hpair⟩ := (inFlight_isqrt_iff ho).mp hf hb
    have hcnt : s.cnt.toNat = 16 := by omega
    have hroot : s.root = (sqrtLoop (sqrtStart s.a) 16).root := hcnt ▸ congrArg RootPair.root hpair
    rw [completeStep_isqrt ho, latched_isqrt ho, execArch, isqrtF_eq, result_eq, ← hroot]
    rfl
  · have harch := completeStep_latch_arch (s := { s with busy := false }) s.a s.b rfl h0
    rwa [← eq_latch_of_busy hp hb] at harch

/-- The edges a command in flight has left, whatever the command inputs are, end with its result: each but the last is
an iterate step (70 R188). -/
theorem clockEdges_complete (hinv : s.Inv) (hb : s.busy = true) (hr : noReset ps) (hl : ps.length = s.edgesLeft) :
    ∃ t, clockEdges ps s = .next t ∧ t.busy = false ∧ t.done = true ∧
      t.arch = execArch s.sinTable s.atanTable s.arch s.latched := by
  induction ps generalizing s with
  | nil =>
    obtain ⟨hf, -⟩ := hinv
    exact absurd hl (edgesLeft_pos hf hb).ne
  | cons p ps ih =>
    have ⟨hf, hp, _⟩ := hinv
    obtain ⟨hrp, hrps⟩ := noReset_cons.mp hr
    obtain ⟨hc, hedge⟩ | ⟨hc, hedge⟩ := clockEdge_busy_cases hrp hb (cnt_le_of_inFlight hf hb)
    · have hinv' : s.iterateStep.Inv := clockEdge_keeps_inv hedge hinv
      have hleft : ps.length = s.iterateStep.edgesLeft := by
        rw [edgesLeft_iterateStep hc] at hl
        exact Nat.succ.inj hl
      obtain ⟨-, -, -, hbusy, -⟩ := iterateStep_frame (s := s)
      rw [clockEdges_cons hedge, ← execArch_iterateStep]
      exact ih hinv' (hbusy.trans hb) hrps hleft
    · obtain rfl : ps = [] := List.eq_nil_of_length_eq_zero (Nat.succ.inj (hl.trans (edgesLeft_eq_one hc)))
      obtain ⟨hbusy, hdone, -⟩ := completeStep_frame (s := s)
      exact ⟨_, clockEdges_cons hedge, hbusy, hdone, completeStep_arch hf hp hb hc⟩

/-- Settles O51: the number of edges is `State.edgesLeft`, and they are iterate steps up to the complete step. -/
theorem everyCommandInFlightCompletes : Obligations.EveryCommandInFlightCompletes :=
  fun s _ hinv hb hr hl => ⟨hl.trans_le (edgesLeft_le s), clockEdges_complete hinv hb hr hl⟩

end Sys2Proof.Machine
